-- ==== Sys2Proof/Word.lean ====
section
/-! DEFINITION. The plain value types of the Vekhra 3208: bytes, station numbers, entry indices, station time,
sets of stations and line levels. -/

namespace Sys2Proof

/-- One byte, as shifted over the local port and as held in a value, a generation or a version. -/
abbrev Byte := BitVec 8

/-- A station number, 0 to 31 (00_scope, Station numbers). -/
abbrev Station := Fin 32

/-- An index into the Item Table, 0 to 127 (R1). -/
abbrev EntryIx := Fin 128

/-- Station time: a 32-bit count of milliseconds that wraps (R156). -/
abbrev Time := BitVec 32

/-- A set of stations, as the 32-bit field with bit `n` for station `n` of section 12.3. -/
abbrev StationSet := BitVec 32

/-- One line level: `true` is recessive (a 1 bit), `false` is dominant (a 0 bit) (R20). -/
abbrev Level := Bool

/-- A frame key, 0 to 4095: the 12-bit key field of R21. -/
abbrev Key := BitVec 12

end Sys2Proof
end

