-- ==== Sys2Proof/Syntax.lean ====
section
/-! DEFINITION. The commands the block takes: one constructor per row of spec/opcode_table.json. A host command carries
the operand bytes of its transaction (the bytes after the code, however many came); a line happening carries the levels
the station has sampled since those handed over last in the same frame, all that bring the happening about or some that
lead up to it (log entry 21); a timer happening carries what owns the timer. -/

namespace Sys2Proof

/-- One row of spec/opcode_table.json each, in the table's order. -/
inductive Instr where
  /-- NOP, code 00H (R182). -/
  | nop (operands : List Byte)
  /-- STATUS, code 01H (R186). -/
  | status (operands : List Byte)
  /-- NEXT-NOTICE, code 02H (R173). -/
  | nextNotice (operands : List Byte)
  /-- READ, code 03H (R185). -/
  | read (operands : List Byte)
  /-- READ-DELIVERY, code 04H (R94). -/
  | readDelivery (operands : List Byte)
  /-- READ-ROSTER, code 05H (R140). -/
  | readRoster (operands : List Byte)
  /-- WRITE, code 10H (R67). -/
  | write (operands : List Byte)
  /-- HOLD, code 11H (R60). -/
  | hold (operands : List Byte)
  /-- RELEASE, code 12H (R61). -/
  | release (operands : List Byte)
  /-- PULL, code 13H (R97). -/
  | pull (operands : List Byte)
  /-- CLAIM, code 14H (R110). -/
  | claim (operands : List Byte)
  /-- SET-STATION, code 20H (R157). -/
  | setStation (operands : List Byte)
  /-- SET-ITEM, code 21H (R158). -/
  | setItem (operands : List Byte)
  /-- START, code 22H (R159). -/
  | start (operands : List Byte)
  /-- STOP, code 23H (R163). -/
  | stop (operands : List Byte)
  /-- REJOIN, code 24H (R152). -/
  | rejoin (operands : List Byte)
  /-- RESTART, code 2AH (R166). -/
  | restart (operands : List Byte)
  /-- A transaction whose code the command code table does not hold (R180). -/
  | unknownCommandCode (code : Byte) (operands : List Byte)
  /-- A transaction in which no whole byte was received (R178). -/
  | emptyTransaction
  /-- Power-up, or the RESET pin asserted and released (R167). -/
  | fullReset
  /-- One millisecond of station time (R156). -/
  | stationTimeTick
  /-- `recessive` further consecutive recessive bit times have been counted toward the gap (R25). -/
  | lineFree (recessive : Nat)
  /-- The start bit of an offered frame is driven (R73). -/
  | startBitCapture
  /-- The last check bit of a received frame is sampled, the last of `levels` (R30). -/
  | frameVerdictPoint (levels : List Level)
  /-- A received frame ends with a clean end field: `levels` are the window's 64 and the end field's 7, or what is left of
  them (R33). -/
  | receivedFrameCompletion (levels : List Level)
  /-- `recessive` further consecutive recessive bit times have been counted toward the join quiet (R40). -/
  | joinQuiet (recessive : Nat)
  /-- The outcome of the station's own frame is decided at the last of `levels`, or, with no levels, was decided by a
  fault already found (R75, R38). -/
  | ownFrameOutcome (levels : List Level)
  /-- The first fault of the frame is found at the last of `levels` (R34), or, with no levels, at the level at which the
  station lost contention (R26). -/
  | faultFound (levels : List Level)
  /-- Seven consecutive recessive bits end the recovery at the last of `levels` (R37). -/
  | lineRecovered (levels : List Level)
  /-- A frame followed silently after a fault reaches the end of its end field at the last of `levels`, or, with no
  levels, at the level of the fault (R37). -/
  | silentFrameEnd (levels : List Level)
  /-- A frame bears the own number, seen at its last source bit, the last of `levels`; or, with no levels, a SLOT fault
  was found (R139). -/
  | duplicateSighting (levels : List Level)
  /-- The period timer of `entry` runs out (R69). -/
  | periodTimerExpiry (entry : EntryIx)
  /-- The inhibit timer of `entry` runs out (R70). -/
  | inhibitTimerExpiry (entry : EntryIx)
  /-- The freshness timer of `entry` runs out (R58). -/
  | freshnessTimerExpiry (entry : EntryIx)
  /-- The hold timer of `entry` runs out (R62). -/
  | holdTimerExpiry (entry : EntryIx)
  /-- The claim timer of `entry` runs out (R112). -/
  | claimTimerExpiry (entry : EntryIx)
  /-- The reply timer of the Pull Table record of `entry` runs out (R102). -/
  | pullReplyTimerExpiry (entry : EntryIx)
  /-- The silence timer of the roster record of `station` runs out (R132). -/
  | silenceTimerExpiry (station : Station)
  /-- The own announce timer runs out (R137). -/
  | ownAnnounceTimerExpiry
  /-- A dominant bit is sampled between frames and taken as another station's start bit (R25). -/
  | startBitOfAnotherStation
  deriving DecidableEq, Repr

end Sys2Proof
end

