-- ==== Sys2Proof/WellFormed.lean ====
section
/-! DEFINITION. Which command terms stand for something the block can be sent. -/

namespace Sys2Proof

/-- The codes of the command code table of section 12.3. -/
def commandCodes : List Byte :=
  [0x00, 0x01, 0x02, 0x03, 0x04, 0x05, 0x10, 0x11, 0x12, 0x13, 0x14, 0x20, 0x21, 0x22, 0x23, 0x24, 0x2A]

/-- The bit times of the longest frame, a YIELD of 12 payload bytes, start bit and end field included (section 2.8). -/
def longestFrame : Nat := 254

/-- The commands that can be sent: an unknown code is none of the table's; the levels handed over for one frame are no
more than the longest frame has, and for a completion no more than the 64 window levels and the 7 of the end field; a
verdict point, a completion and a recovery hand over at least one level. A fault may fall at a level handed over before,
the one at which contention was lost (R26), and a frame followed silently may end at one, the last end-field bit that was
at fault (R37). -/
def Instr.wellFormed : Instr → Bool
  | .unknownCommandCode code _ => !commandCodes.contains code
  | .frameVerdictPoint levels => !levels.isEmpty && decide (levels.length ≤ longestFrame)
  | .receivedFrameCompletion levels => !levels.isEmpty && decide (levels.length ≤ 71)
  | .ownFrameOutcome levels => decide (levels.length ≤ longestFrame)
  | .faultFound levels => decide (levels.length ≤ longestFrame)
  | .silentFrameEnd levels => decide (levels.length ≤ longestFrame)
  | .duplicateSighting levels => decide (levels.length ≤ longestFrame)
  | .lineRecovered levels => !levels.isEmpty
  | .nop _ | .status _ | .nextNotice _ | .read _ | .readDelivery _ | .readRoster _ | .write _ | .hold _ | .release _
  | .pull _ | .claim _ | .setStation _ | .setItem _ | .start _ | .stop _ | .rejoin _ | .restart _
  | .emptyTransaction | .fullReset | .stationTimeTick | .lineFree _ | .startBitCapture | .joinQuiet _
  | .periodTimerExpiry _ | .inhibitTimerExpiry _ | .freshnessTimerExpiry _ | .holdTimerExpiry _
  | .claimTimerExpiry _ | .pullReplyTimerExpiry _ | .silenceTimerExpiry _ | .ownAnnounceTimerExpiry
  | .startBitOfAnotherStation => true

end Sys2Proof
end

