-- ==== Sys2Proof/Decode.lean ====
section
/-! DEFINITION. From bytes to commands. No row of spec/opcode_table.json gives bits, so no word of the table spells a
command; a transaction of the local port does, by the command code table of section 12.3, its bytes assembled from the
bits clocked in (R178). -/

namespace Sys2Proof

/-- The command a word spells by the table's bits: the table gives bits to no row. -/
def decodeTableWord (_nbits _w : Nat) : Option Instr := none

/-- A byte as the port clocks it, most significant bit first (R178). -/
def byteBits (b : Byte) : List Bool :=
  [b.getLsbD 7, b.getLsbD 6, b.getLsbD 5, b.getLsbD 4, b.getLsbD 3, b.getLsbD 2, b.getLsbD 1, b.getLsbD 0]

/-- The whole bytes in the bits clocked in between the assertion and the release of chip-select, most significant bit
first; fewer than 8 bits after the last whole byte are discarded (R178). -/
def wholeBytes : List Bool → List Byte
  | b7 :: b6 :: b5 :: b4 :: b3 :: b2 :: b1 :: b0 :: rest =>
    BitVec.ofNat 8 ([b7, b6, b5, b4, b3, b2, b1, b0].foldl (fun n b => 2 * n + b.toNat) 0) :: wholeBytes rest
  | _ => []

/-- The command of a transaction in which these whole bytes were received: the first is the code, the others are the
operands (R178, R180). -/
def transactionCommand (bytes : List Byte) : Instr :=
  match bytes with
  | [] => .emptyTransaction
  | code :: ops =>
    if code = 0x00 then .nop ops
    else if code = 0x01 then .status ops
    else if code = 0x02 then .nextNotice ops
    else if code = 0x03 then .read ops
    else if code = 0x04 then .readDelivery ops
    else if code = 0x05 then .readRoster ops
    else if code = 0x10 then .write ops
    else if code = 0x11 then .hold ops
    else if code = 0x12 then .release ops
    else if code = 0x13 then .pull ops
    else if code = 0x14 then .claim ops
    else if code = 0x20 then .setStation ops
    else if code = 0x21 then .setItem ops
    else if code = 0x22 then .start ops
    else if code = 0x23 then .stop ops
    else if code = 0x24 then .rejoin ops
    else if code = 0x2A then .restart ops
    else .unknownCommandCode code ops

/-- The command of a transaction in which these bits were clocked in (R178). -/
def clockedCommand (bits : List Bool) : Instr := transactionCommand (wholeBytes bits)

end Sys2Proof
end

