-- ==== Sys2Proof/Config.lean ====
section
/-! DEFINITION. What the spec leaves open: opaque constants with no body, applied to the draw counter of the state, so
that no proof can see a value. Each is named in notes/assumptions. -/

namespace Sys2Proof

/-- The duration a HOLD gives the hold timer when no SET-STATION has been accepted since full reset: R60 takes HOLD in
CONFIGURING with "the station hold limit as its duration", and R167 leaves the parameters "not set". The number is that
of the milliseconds past the first: "no duration exceeds 65535 ms" (R156), and a timer runs for at least one (log entry
3). The argument is the draw. -/
opaque Config.unsetHoldLimit : Nat → Fin 65535

/-- The own number read while no SET-STATION has been accepted; no run from reset reads it (log entry 4). -/
opaque Config.unsetNumber : Station

/-- A duration parameter read while no SET-STATION has been accepted, in milliseconds past the first; no run from reset
reads it (log entry 4). The argument tells the parameters apart. -/
opaque Config.unsetDuration : Nat → Fin 65535

/-- The order in which the auto-pull requests of one orphaning reach the Pull Unit when they are more than the free
records: the spec gives the postings of one happening an order (R170) and the requests none (log entry 5). The first
argument is the draw. -/
opaque Config.autoPullRank : Nat → EntryIx → Nat

/-- Whether the loss report's postings are taken before those of the orphaning that goes with it: "Two separate
happenings that post for different entries have no order of their own" (R170; log entry 6). The argument is the draw. -/
opaque Config.lossReportFirst : Nat → Bool

end Sys2Proof
end

