-- ==== Sys2Proof/Machine/State.lean ====
section
/-! DEFINITION. The state of the Vekhra 3208, block by block, the stops a step may end in, and the state after full
reset (R167). -/

namespace Sys2Proof.Machine

/-! ### Names of the line -/

/-- The classes of a frame, by value 0 to 3 (R21). -/
inductive FrameClass where
  | system | urgent | normal | bulk
  deriving DecidableEq, Repr

/-- The types of an ANNOUNCE, by value 0 to 2 (R21). -/
inductive AnnounceType where
  | join | present | leave
  deriving DecidableEq, Repr

/-- The kind of a frame with the body it calls for (R21). -/
inductive FrameBody where
  | yield (newOwner : Station) (generation version : Byte) (payload : List Byte)
  | claim (generationSeen : Byte) (adopt : Bool)
  | publish (generation version : Byte) (payload : List Byte)
  | pull
  | announce (type : AnnounceType)
  deriving DecidableEq, Repr

/-- Header and body of a frame (R21). -/
structure Frame where
  cls : FrameClass
  key : Key
  source : Station
  body : FrameBody
  deriving DecidableEq, Repr

/-- The symbol of one slot of the acknowledgement window (R31). -/
inductive SlotSymbol where
  | absent | seen | taken | busy
  deriving DecidableEq, Repr

/-- The acknowledgement window: one symbol for each station number (R31). -/
abbrev Window := Vector SlotSymbol 32

/-- The kinds of fault a station finds in a frame (R34). -/
inductive FaultKind where
  | bit | beat | form | check | slot | abortSeen | noReceipt
  deriving DecidableEq, Repr

/-- The outcomes of a frame the station began (R38). -/
inductive TxOutcome where
  | completed | unheard | destroyed | outbid | collided
  deriving DecidableEq, Repr

/-! ### Timers -/

/-- A running timer: the station time it was started at and its duration in milliseconds (R13). -/
structure Running where
  started : Time
  duration : Nat
  deriving DecidableEq, Repr

/-- A timer is running, or stopped (`none`) (R13). -/
abbrev Timer := Option Running

/-! ### Item Table -/

/-- The configured role of an entry (R4). -/
inductive ConfigRole where
  | unused | publisher | subscriber
  deriving DecidableEq, Repr

/-- The role of an entry (R8). -/
inductive Role where
  | unused | publisher | subscriber | yielding | claiming
  deriving DecidableEq, Repr

/-- The mirror state of an entry in role SUBSCRIBER or CLAIMING (R9). -/
inductive MirrorState where
  | empty | fresh | stale | orphaned
  deriving DecidableEq, Repr

/-- The configuration part of an entry (R4). A field the entry does not carry is stored as zero (R5); the class of an
unused entry reads as 0, which is SYSTEM's value. -/
structure ItemConfig where
  role : ConfigRole
  key : Key
  cls : FrameClass
  length : Nat
  movable : Bool
  onWrite : Bool
  periodic : Bool
  period : Nat
  inhibit : Nat
  required : StationSet
  attemptLimit : Nat
  initial : List Byte
  freshness : Nat
  autoPull : Bool
  deriving DecidableEq, Repr

/-- The source of a mirrored value, with the arrival time that is present exactly when it is (R7, R11). -/
structure Origin where
  station : Station
  arrival : Time
  deriving DecidableEq, Repr

/-- The pending requests of an entry: a PUBLISH with its line attempt count, and the three kinds that carry none
(R12, R64). -/
structure PendingSet where
  publish : Option Nat
  pull : Bool
  claim : Bool
  yield : Bool
  deriving DecidableEq, Repr

/-- The states of a delivery record other than NONE (R82). -/
inductive DeliveryState where
  | opened | delivered | undelivered
  deriving DecidableEq, Repr

/-- A delivery record in a state other than NONE (R82). -/
structure Delivery where
  state : DeliveryState
  version : Byte
  receipts : StationSet
  refused : StationSet
  attempts : Nat
  deriving DecidableEq, Repr

/-- The yield target and yield attempt count, present in role YIELDING (R109). -/
structure YieldPart where
  target : Station
  attempts : Nat
  deriving DecidableEq, Repr

/-- The kinds of a claim (R110). -/
inductive ClaimKind where
  | normal | adopt
  deriving DecidableEq, Repr

/-- The claim kind and the claim frame mark, present in role CLAIMING (R109). -/
structure ClaimPart where
  kind : ClaimKind
  frameMark : Bool
  deriving DecidableEq, Repr

/-- A set of reasons, as the 16-bit field of section 12.3. -/
abbrev ReasonSet := BitVec 16

/-- The runtime part of an entry (R7). A field that is not present holds `none`, `false` or no request. -/
structure Runtime where
  role : Role
  mirror : Option MirrorState
  /-- The 12 bytes of value storage; the value is the first *length* of them (R10). -/
  storage : Vector Byte 12
  generation : Byte
  version : Byte
  source : Option Origin
  held : Bool
  holdTimer : Timer
  freshTimer : Timer
  pending : PendingSet
  periodTimer : Timer
  inhibitTimer : Timer
  /-- `none` is the state NONE. -/
  delivery : Option Delivery
  yield : Option YieldPart
  claim : Option ClaimPart
  claimTimer : Timer
  pullWanted : Bool
  /-- The deferred reasons; the deferred mark is set exactly while they are present (R168). -/
  deferred : Option ReasonSet
  deriving DecidableEq, Repr

/-- One record of the Item Table: its configuration part and its runtime part. -/
structure Entry where
  cfg : ItemConfig
  rt : Runtime
  deriving DecidableEq, Repr

/-! ### Transmit Selector -/

/-- A pending request: a kind for an entry, or an announce of the station (R64). -/
inductive Request where
  | publish (entry : EntryIx)
  | pull (entry : EntryIx)
  | claim (entry : EntryIx)
  | yield (entry : EntryIx)
  | announce (type : AnnounceType)
  deriving DecidableEq, Repr

/-- The station announce request (R64). -/
structure AnnounceRequest where
  type : AnnounceType
  attempts : Nat
  deriving DecidableEq, Repr

/-- The in-flight request with its attempt count and the content captured for it (R64, R73). `destroyed` is set from
the fault that ends the frame until its outcome is handed over (R38). -/
structure InFlight where
  request : Request
  attempts : Nat
  content : Frame
  destroyed : Bool
  deriving DecidableEq, Repr

/-! ### Acceptance Unit -/

/-- The verdicts (R42, R45, R106, R117, R122, R124, R127). -/
inductive Verdict where
  | accept | refresh | ignore | defer | serve | cede | assume | depose | reassert | outranked | announce
  deriving DecidableEq, Repr

/-- The verdict record (R42). `driven` says that the LIU drove the slot answer (R30). -/
structure VerdictRecord where
  entry : Option EntryIx
  verdict : Verdict
  answer : SlotSymbol
  reasons : ReasonSet
  effective : Option Station
  frame : Frame
  driven : Bool
  deriving DecidableEq, Repr

/-! ### Pull Unit -/

/-- The phases of a Pull Table record (R95). -/
inductive PullPhase where
  | waiting | sent
  deriving DecidableEq, Repr

/-- A record of the Pull Table (R95). -/
structure PullRecord where
  entry : EntryIx
  phase : PullPhase
  attempts : Nat
  replyTimer : Timer
  onLine : Bool
  mergeWatch : Bool
  deriving DecidableEq, Repr

/-! ### Line Interface Unit -/

/-- The phases of the LIU (R39). -/
inductive LiuPhase where
  | off | listening | resting | idle | sending | receiving | window | ending | aborting | recovering
  deriving DecidableEq, Repr

/-- The contention status of a frame the station is sending (section 2.1): no own frame, still sending, or lost in the
header or in the source field (R26, R27). -/
inductive Contention where
  | none | sending | lostHeader | lostSource
  deriving DecidableEq, Repr

/-- The state of the LIU. -/
structure Liu where
  phase : LiuPhase
  /-- The levels sampled in the current frame, its start bit first: their number is the position in the frame. -/
  sampled : List Level
  contention : Contention
  /-- The first fault found in the current frame (R34). -/
  fault : Option FaultKind
  /-- The acknowledgement window as sampled. -/
  window : Option Window
  /-- Bit times still to pass until the end of an abort mark that is owed or being driven; 0 for none (R35). -/
  markBits : Nat
  /-- The recessive bits sampled in a row in RECOVERING (R37). -/
  recovery : Nat
  /-- The join-quiet count (R40). -/
  joinQuiet : Nat
  /-- The count of recessive bit times since the last end field or recovery (R25). -/
  gap : Nat
  deriving DecidableEq, Repr

/-! ### Station Roster, Fault Confinement Unit, Notice Queue, Station Control -/

/-- The states of a roster record (R130). -/
inductive RosterState where
  | absent | present | silent
  deriving DecidableEq, Repr

/-- A roster record (R130). -/
structure RosterRecord where
  state : RosterState
  silence : Timer
  deriving DecidableEq, Repr

/-- The standings (R146). -/
inductive Standing where
  | good | cautious | muted
  deriving DecidableEq, Repr

/-- What the FCU holds (R142); `none` is the last fault kind NONE (R145). -/
structure Fcu where
  score : Nat
  standing : Standing
  cleanCount : Nat
  lastFault : Option FaultKind
  deriving DecidableEq, Repr

/-- A notice record (R168). -/
structure NoticeRecord where
  entry : EntryIx
  reasons : ReasonSet
  deriving DecidableEq, Repr

/-- The station notice set, bits 0 to 5 as section 12.3 numbers them. -/
abbrev FlagSet := BitVec 6

/-- The lifecycle states (R155). -/
inductive Lifecycle where
  | configuring | joining | online | leaving | halted
  deriving DecidableEq, Repr

/-- The bit rates of the line, in kbit/s (R20). -/
inductive BitRate where
  | kbit100 | kbit200 | kbit400 | kbit800
  deriving DecidableEq, Repr

/-- The seven station parameters; durations in milliseconds (R157). -/
structure StationParams where
  station : Station
  rate : BitRate
  announce : Nat
  window : Nat
  claim : Nat
  pull : Nat
  hold : Nat
  deriving DecidableEq, Repr

/-! ### The state -/

/-- The whole state of the part, and the model's queue of waiting commands. -/
structure State where
  /-- IT, with the per-entry parts of TS, PS, DT, PU, OU and NQ (R7). -/
  entries : Vector Entry 128
  /-- LIU (R39). -/
  liu : Liu
  /-- AU: the verdict record (R42). -/
  verdict : Option VerdictRecord
  /-- TS: the station announce request (R64). -/
  announce : Option AnnounceRequest
  /-- TS: the in-flight request (R64). -/
  inFlight : Option InFlight
  /-- PU: the Pull Table; the order of the list has no meaning (R95). -/
  pulls : List PullRecord
  /-- SR: the roster records (R130). -/
  roster : Vector RosterRecord 32
  /-- SR: the own announce timer (R137). -/
  announceTimer : Timer
  /-- FCU (R142). -/
  fcu : Fcu
  /-- NQ: the notice queue, its head first (R168). -/
  notices : List NoticeRecord
  /-- NQ: the station notice set (R175). -/
  flags : FlagSet
  /-- SC: the lifecycle (R155). -/
  lifecycle : Lifecycle
  /-- SC: the station parameters; present exactly while the station-set mark is set (R157). -/
  params : Option StationParams
  /-- SC: station time (R156). -/
  time : Time
  /-- LP: the reply buffer; `none` holds no reply (R181). -/
  reply : Option (List Byte)
  /-- LP: the bytes the port shifted out in the last transaction (R181). -/
  shiftedOut : List Byte
  /-- The model's own: how many free values have been drawn (log entry 2). -/
  draws : Nat
  /-- The model's own: the commands waiting, first in, first out. -/
  pending : List Instr
  deriving DecidableEq, Repr

/-! ### Stops -/

/-- The faults of a step. No rule of the spec stops the part and every command of the table has an effect, so there is
none: nothing raises it (safe). -/
inductive Fault where
  deriving DecidableEq, Repr

/-- The refusals of a step. -/
inductive Refusal where
  /-- Raised by an arm of `exec` whose command has no meaning yet; no arm raises it (safe: the step stops). -/
  | notModelled (mnemonic : String)
  deriving DecidableEq, Repr

/-! ### Reset values -/

/-- The configuration part of an entry that full reset or a freeing SET-ITEM leaves: role UNUSED, every other field
cleared (R6). -/
def ItemConfig.unused : ItemConfig where
  role := .unused
  key := 0
  cls := .system
  length := 0
  movable := false
  onWrite := false
  periodic := false
  period := 0
  inhibit := 0
  required := 0
  attemptLimit := 0
  initial := []
  freshness := 0
  autoPull := false

/-- No pending request. -/
def PendingSet.none : PendingSet where
  publish := Option.none
  pull := false
  claim := false
  yield := false

/-- The UNUSED column of R19. Value, generation and version are absent there (R7); DESIGN CHOICE: the storage holds zero
bytes, and generation and version hold 0 (log entry 1). -/
def Runtime.unused : Runtime where
  role := .unused
  mirror := .none
  storage := Vector.replicate 12 0
  generation := 0
  version := 0
  source := .none
  held := false
  holdTimer := .none
  freshTimer := .none
  pending := .none
  periodTimer := .none
  inhibitTimer := .none
  delivery := .none
  yield := .none
  claim := .none
  claimTimer := .none
  pullWanted := false
  deferred := .none

/-- The LIU after full reset, after RESTART and in HALTED (R39, R41). -/
def Liu.off : Liu where
  phase := .off
  sampled := []
  contention := .none
  fault := .none
  window := .none
  markBits := 0
  recovery := 0
  joinQuiet := 0
  gap := 0

/-- A roster record with nothing taken (R130). -/
def RosterRecord.cleared : RosterRecord where
  state := .absent
  silence := .none

/-- The FCU after full reset and after RESTART (R154). -/
def Fcu.cleared : Fcu where
  score := 0
  standing := .good
  cleanCount := 0
  lastFault := .none

/-- The part right after full reset (R167). -/
def State.reset : State where
  entries := Vector.replicate 128 ⟨.unused, .unused⟩
  liu := .off
  verdict := none
  announce := none
  inFlight := none
  pulls := []
  roster := Vector.replicate 32 .cleared
  announceTimer := none
  fcu := .cleared
  notices := []
  flags := 0
  lifecycle := .configuring
  params := none
  time := 0
  reply := none
  shiftedOut := []
  draws := 0
  pending := []

/-! ### Reading and updating one place -/

/-- The configuration part of entry `i`. -/
def State.cfg (s : State) (i : EntryIx) : ItemConfig := s.entries[i].cfg

/-- The runtime part of entry `i`. -/
def State.rt (s : State) (i : EntryIx) : Runtime := s.entries[i].rt

/-- `s` with the runtime part of entry `i` changed by `f`. -/
def State.modRt (s : State) (i : EntryIx) (f : Runtime → Runtime) : State :=
  { s with entries := s.entries.set i { s.entries[i] with rt := f s.entries[i].rt } }

/-- `s` with the runtime part of every entry changed by `f`. -/
def State.mapRt (s : State) (f : EntryIx → ItemConfig → Runtime → Runtime) : State :=
  { s with entries := Vector.ofFn fun i => { s.entries[i] with rt := f i s.entries[i].cfg s.entries[i].rt } }

/-- `s` with entry `i` replaced. -/
def State.setEntry (s : State) (i : EntryIx) (e : Entry) : State :=
  { s with entries := s.entries.set i e }

/-- The roster record of station `st`. -/
def State.record (s : State) (st : Station) : RosterRecord := s.roster[st]

/-- `s` with every roster record changed by `f`. -/
def State.mapRoster (s : State) (f : Station → RosterRecord → RosterRecord) : State :=
  { s with roster := Vector.ofFn fun st => f st s.roster[st] }

/-- `s` with its queue replaced. -/
def State.withPending (s : State) (q : List Instr) : State := { s with pending := q }

end Sys2Proof.Machine
end

