-- ==== Sys2Proof/Machine/Line.lean ====
section
/-! DEFINITION. The line as bits: the frame layout, beats, the check field, and what a station that receives and a
station that sends finds in the levels it samples (R20 to R38). -/

namespace Sys2Proof.Machine

/-! ### Numbers as bits, most significant bit first (R20) -/

/-- The low `n` bits of `v`, most significant first. -/
def natBits : Nat → Nat → List Bool
  | 0, _ => []
  | n + 1, v => v.testBit n :: natBits n v

/-- The number whose bits, most significant first, are `bs`. -/
def bitsNat (bs : List Bool) : Nat := bs.foldl (fun acc b => 2 * acc + b.toNat) 0

/-- The number in the `width` bits of `span` that follow its first `offset`. -/
def fieldAt (span : List Bool) (offset width : Nat) : Nat := bitsNat ((span.drop offset).take width)

/-! ### Codes of the frame layout (R21) -/

/-- The value of a class. -/
def FrameClass.code : FrameClass → Nat
  | .system => 0
  | .urgent => 1
  | .normal => 2
  | .bulk => 3

/-- The class of a value; values above 3 do not arise from two bits. -/
def FrameClass.ofCode : Nat → FrameClass
  | 0 => .system
  | 1 => .urgent
  | 2 => .normal
  | _ => .bulk

/-- The value of a type of announce. -/
def AnnounceType.code : AnnounceType → Nat
  | .join => 0
  | .present => 1
  | .leave => 2

/-- The type of a value; 3 is not allowed (R24). -/
def AnnounceType.ofCode : Nat → Option AnnounceType
  | 0 => some .join
  | 1 => some .present
  | 2 => some .leave
  | _ => none

/-- The value of the kind of a frame. -/
def FrameBody.kindCode : FrameBody → Nat
  | .yield .. => 0
  | .claim .. => 1
  | .publish .. => 2
  | .pull => 3
  | .announce _ => 4

/-- The bits of a payload (R21). -/
def payloadBits (payload : List Byte) : List Bool := payload.flatMap fun b => natBits 8 b.toNat

/-- The body bits; fill bits are recessive (R21). -/
def FrameBody.bits : FrameBody → List Bool
  | .yield newOwner g v p =>
    natBits 5 newOwner.val ++ [true, true, true] ++ natBits 8 g.toNat ++ natBits 8 v.toNat
      ++ natBits 4 p.length ++ payloadBits p
  | .claim g adopt => natBits 8 g.toNat ++ [adopt] ++ [true, true, true]
  | .publish g v p => natBits 8 g.toNat ++ natBits 8 v.toNat ++ natBits 4 p.length ++ payloadBits p
  | .pull => []
  | .announce t => natBits 2 t.code ++ [true, true, true, true, true, true]

/-- The span bits from the first class bit to the last body bit (R21). -/
def Frame.covered (f : Frame) : List Bool :=
  natBits 2 f.cls.code ++ natBits 12 f.key.toNat ++ natBits 3 f.body.kindCode ++ natBits 5 f.source.val ++ f.body.bits

/-- One step of the check register (R23). -/
def crcStep (r : BitVec 16) (b : Bool) : BitVec 16 :=
  if r.msb != b then (r <<< 1) ^^^ 0x38A5#16 else r <<< 1

/-- The check value of the covered bits (R23). -/
def crc (bs : List Bool) : BitVec 16 := bs.foldl crcStep 0xFFFF#16

/-- The beat span: the covered bits and the check field (R22). -/
def Frame.span (f : Frame) : List Bool := f.covered ++ natBits 16 (crc f.covered).toNat

/-- `bs` with a beat after each bit whose position is a multiple of 8, the first bit being at position `k + 1`
modulo 8 (R22). -/
def insertBeats : Nat → List Bool → List Bool
  | _, [] => []
  | k, b :: bs => if k = 7 then b :: (!b) :: insertBeats 0 bs else b :: insertBeats (k + 1) bs

/-- The levels a sender drives from its start bit to its last check bit (R21, R22). -/
def Frame.levels (f : Frame) : List Level := false :: insertBeats 0 f.span

/-- The arbitration value of a frame of this class, key and kind value (R72). -/
def arbitration (cls : FrameClass) (key : Nat) (kind : Nat) : Nat := cls.code * 32768 + key * 8 + kind

/-! ### The acknowledgement window (R31) -/

/-- The symbol read from the two levels of a slot. -/
def slotSymbol (first second : Level) : SlotSymbol :=
  match first, second with
  | true, true => .absent
  | false, true => .seen
  | false, false => .taken
  | true, false => .busy

/-- The two levels a station drives in its slot for an answer, ABSENT being a silent slot. -/
def SlotSymbol.levels : SlotSymbol → List Level
  | .absent => [true, true]
  | .seen => [false, true]
  | .taken => [false, false]
  | .busy => [true, false]

/-- The window read from the 64 levels of its slots; a level not sampled counts as recessive. -/
def windowOf (levels : List Level) : Window :=
  Vector.ofFn fun st => slotSymbol (levels.getD (2 * st.val) true) (levels.getD (2 * st.val + 1) true)

/-! ### Lengths and form (R21, R22, R24) -/

/-- The span length that the bits sampled so far tell: known once the kind, and for PUBLISH and YIELD the length field,
has been sampled in range (R22, R37). -/
def spanLength (span : List Bool) : Option Nat :=
  if span.length < 17 then none
  else
    match fieldAt span 14 3 with
    | 0 => if 50 ≤ span.length ∧ fieldAt span 46 4 ≤ 12 then some (66 + 8 * fieldAt span 46 4) else none
    | 1 => some 50
    | 2 => if 42 ≤ span.length ∧ fieldAt span 38 4 ≤ 12 then some (58 + 8 * fieldAt span 38 4) else none
    | 3 => some 38
    | 4 => some 46
    | _ => none

/-- Whether the last bit of `span` is a fill bit (R21). -/
def atFillBit (span : List Bool) : Bool :=
  match fieldAt span 14 3 with
  | 0 => decide (28 ≤ span.length ∧ span.length ≤ 30)
  | 1 => decide (32 ≤ span.length ∧ span.length ≤ 34)
  | 4 => decide (25 ≤ span.length ∧ span.length ≤ 30)
  | _ => false

/-- Whether the last bit of `span` shows a field value outside the allowed ones (R24). -/
def formViolation (span : List Bool) : Bool :=
  let cls := fieldAt span 0 2
  let key := fieldAt span 2 12
  let kind := fieldAt span 14 3
  let source := fieldAt span 17 5
  match span.length with
  | 14 => decide (32 ≤ key ∧ key ≤ 63)
  | 17 => decide (5 ≤ kind ∨ (cls = 0 ∧ kind ≠ 4) ∨ (kind = 4 ∧ cls ≠ 0) ∨ (key < 32 ∧ kind ≠ 4))
  | 22 => decide (kind = 4 ∧ key ≠ source)
  | 24 => decide (kind = 4 ∧ fieldAt span 22 2 = 3)
  | 27 => decide (kind = 0 ∧ fieldAt span 22 5 = source)
  | 42 => decide (kind = 2 ∧ 12 < fieldAt span 38 4)
  | 50 => decide (kind = 0 ∧ 12 < fieldAt span 46 4)
  | _ => false

/-- The payload bytes in the bits that follow the first `offset`. -/
def payloadAt (span : List Bool) (offset : Nat) : Nat → List Byte
  | 0 => []
  | n + 1 => BitVec.ofNat 8 (fieldAt span offset 8) :: payloadAt span (offset + 8) n

/-- A station number in a 5-bit field. -/
def stationAt (span : List Bool) (offset : Nat) : Station := Fin.ofNat 32 (fieldAt span offset 5)

/-- The body of the frame whose span bits are `span` (R21). -/
def bodyOf (span : List Bool) : Option FrameBody :=
  match fieldAt span 14 3 with
  | 0 => some (.yield (stationAt span 22) (BitVec.ofNat 8 (fieldAt span 30 8)) (BitVec.ofNat 8 (fieldAt span 38 8))
      (payloadAt span 50 (fieldAt span 46 4)))
  | 1 => some (.claim (BitVec.ofNat 8 (fieldAt span 22 8)) (span.getD 30 true))
  | 2 => some (.publish (BitVec.ofNat 8 (fieldAt span 22 8)) (BitVec.ofNat 8 (fieldAt span 30 8))
      (payloadAt span 42 (fieldAt span 38 4)))
  | 3 => some .pull
  | 4 => (AnnounceType.ofCode (fieldAt span 22 2)).map .announce
  | _ => none

/-- Header and body of the frame whose span bits are `span` (R21). -/
def frameOf (span : List Bool) : Option Frame :=
  (bodyOf span).map fun body =>
    { cls := .ofCode (fieldAt span 0 2), key := BitVec.ofNat 12 (fieldAt span 2 12), source := stationAt span 17, body }

/-- Whether the check field at the end of a whole span matches its other bits (R23). -/
def checkMatches (span : List Bool) : Bool :=
  decide ((crc (span.take (span.length - 16))).toNat = fieldAt span (span.length - 16) 16)

/-! ### A frame as a station samples it -/

/-- What a station following a frame has made of the levels sampled since its start bit. -/
structure Rx where
  /-- The span bits sampled, beats left out. -/
  span : List Bool
  /-- The next level is a beat. -/
  beat : Bool
  /-- The last level sampled. -/
  last : Level
  /-- The length of the unbroken dominant run that ends in the last level. -/
  run : Nat
  /-- The window levels sampled. -/
  win : List Level
  /-- The number of end-field levels sampled. -/
  fin : Nat
  /-- The first irregularity found. -/
  fault : Option FaultKind
  /-- The number of dominant irregularities of the kinds R36 lists. -/
  dominant : Nat
  deriving DecidableEq, Repr

/-- A receiver that has sampled a start bit. -/
def Rx.begun : Rx where
  span := []
  beat := false
  last := false
  run := 1
  win := []
  fin := 0
  fault := none
  dominant := 0

/-- The kind of an irregularity found at a dominant bit, the `run`-th of its dominant run, which would else be of kind
`k` (R36). -/
def runKind (run : Nat) (k : FaultKind) : FaultKind := if 6 ≤ run then .abortSeen else k

/-- `r` with an irregularity of kind `k` found; the first one governs (R34). -/
def Rx.withFault (r : Rx) (k : FaultKind) : Rx := { r with fault := r.fault.or (some k) }

/-- `r` with an irregularity found at a dominant bit (R36). -/
def Rx.withDominant (r : Rx) (k : FaultKind) : Rx :=
  { r.withFault (runKind r.run k) with dominant := r.dominant + 1 }

/-- `r` with the level `b` recorded as the last one. -/
def Rx.note (r : Rx) (b : Level) : Rx := { r with last := b, run := if b then 0 else r.run + 1 }

/-- A level in the place of a beat (R22). -/
def Rx.stepBeat (r : Rx) (b : Level) : Rx :=
  let r' := { r.note b with beat := false }
  if b = r.last then (if b then r'.withFault .beat else r'.withDominant .beat) else r'

/-- A level in the place of a span bit: fill bits, form and, at the last check bit, the check (R23, R24). -/
def Rx.stepSpan (r : Rx) (b : Level) : Rx :=
  let span := r.span ++ [b]
  let r' := { r.note b with span := span, beat := decide (span.length % 8 = 0) }
  if atFillBit span && !b then r'.withDominant .form
  else if formViolation span then r'.withFault .form
  else if spanLength span = some span.length && !checkMatches span then r'.withFault .check
  else r'

/-- A level of the window, or after it of the end field (R24, R31). -/
def Rx.stepTail (r : Rx) (b : Level) : Rx :=
  if r.win.length < 64 then { r.note b with win := r.win ++ [b] }
  else
    let r' := { r.note b with fin := r.fin + 1 }
    if b then r' else r'.withDominant .form

/-- Whether the whole span has been sampled. -/
def Rx.spanDone (r : Rx) : Bool := decide (spanLength r.span = some r.span.length)

/-- Whether the end field has been sampled to its end. -/
def Rx.over (r : Rx) : Bool := decide (r.fin = 7)

/-- One more level of the frame. -/
def Rx.step (r : Rx) (b : Level) : Rx :=
  if r.over then r
  else if r.beat then r.stepBeat b
  else if r.spanDone then r.stepTail b
  else r.stepSpan b

/-- What a station makes of the levels of a frame, its start bit first. -/
def rxScan (sampled : List Level) : Rx := (sampled.drop 1).foldl Rx.step .begun

/-- The fault that is first found at the very last of the levels. -/
def rxFaultNow (sampled : List Level) : Option FaultKind :=
  if (rxScan sampled.dropLast).fault.isNone then (rxScan sampled).fault else none

/-- The frame, where the last of the levels is its last check bit and no fault was found in it (R30). -/
def Rx.frame (r : Rx) : Option Frame :=
  if r.spanDone && r.win.isEmpty && r.fault.isNone then frameOf r.span else none

/-- The frame of levels that end in its last check bit with no fault found in them (R30). -/
def frameAtVerdict (sampled : List Level) : Option Frame := (rxScan sampled).frame

/-- The window, where the whole frame has been sampled and no fault was found in it (R33). -/
def Rx.window (r : Rx) : Option Window := if r.over && r.fault.isNone then some (windowOf r.win) else none

/-- The window of levels that are a whole frame with no fault found in them (R33). -/
def windowAtEnd (sampled : List Level) : Option Window := (rxScan sampled).window

/-- What a station in whose frame no fault is recorded has made of the levels it holds. Where they hold a wrong beat, it
was sending there and lost contention at that beat, which is no fault (R22, R26; log entry 30). -/
def rxHeld (held : List Level) : Rx :=
  let r := rxScan held
  if r.fault = some .beat ∨ r.fault = some .abortSeen then { r with fault := none } else r

/-- What such a station makes of `levels` more. -/
def rxOn (held levels : List Level) : Rx := (levels.drop (1 - held.length)).foldl Rx.step (rxHeld held)

/-- The fault that such a station finds first at the last of the levels, with `levels` more; with none more, at the
level at which it lost contention (R26; log entry 30). -/
def rxFaultOn (held levels : List Level) : Option FaultKind :=
  let earlier := if levels.isEmpty then rxHeld held.dropLast else rxOn held levels.dropLast
  if earlier.fault.isNone then (rxOn held levels).fault else none

/-- The source field, where the last of the levels is its last bit (R29). -/
def sourceNow (sampled : List Level) : Option Station :=
  if (rxScan sampled).span.length = 22 ∧ (rxScan sampled.dropLast).span.length = 21 then
    some (stationAt (rxScan sampled).span 17)
  else none

/-- Whether the source field sampled shows the own number (R29). -/
def sourceIsOwn (own : Station) (sampled : List Level) : Bool :=
  let r := rxScan sampled
  decide (22 ≤ r.span.length) && decide (stationAt r.span 17 = own)

/-- Whether the fields sampled tell the frame's length (R37). -/
def lengthKnown (sampled : List Level) : Bool := (spanLength (rxScan sampled).span).isSome

/-- Whether the levels added to a frame followed silently bring it to its end with nothing further amiss (R37). DESIGN
CHOICE: a further irregularity that is not of the kinds R36 lists, a recessive beat where dominant was due, a check field
that does not match or a field value that is not allowed, leaves the frame followed to its end (log entry 32). -/
def silentEnd (before after : List Level) : Bool :=
  (rxScan (before ++ after)).over && decide ((rxScan (before ++ after)).dominant = (rxScan before).dominant)
    && !(rxScan (before ++ after).dropLast).over

/-- Whether the levels added to a frame followed silently leave it short of its end with nothing further amiss (R37). -/
def silentSoFar (before after : List Level) : Bool :=
  !(rxScan (before ++ after)).over && decide ((rxScan (before ++ after)).dominant = (rxScan before).dominant)

/-- How many of the levels added to a frame followed silently reach the first further irregularity (R37). -/
def breakAfter (before : List Level) : List Level → Nat → Option Nat
  | after, n =>
    (List.range n).find? fun k =>
      decide ((rxScan before).dominant < (rxScan (before ++ after.take (k + 1))).dominant)

/-- The phase of a station that receives a frame, or follows one silently, after these levels of it (R39). -/
def phaseAt (sampled : List Level) : LiuPhase :=
  let r := rxScan sampled
  if !r.spanDone then .receiving else if r.win.length < 64 then .window else .ending

/-- The length of the run of recessive levels that ends in the last of `levels`, `q` recessive levels coming before
them (R40). -/
def recessiveRun (q : Nat) (levels : List Level) : Nat := levels.foldl (fun n b => if b then n + 1 else 0) q

/-- The phase of a station that owes or drives a mark and has `m` bit times to its end: a mark that waits for the end
field leaves the LIU in WINDOW, the eight bits of the mark are ABORTING, and its end is RECOVERING (R35, R37, R39). -/
def markPhase (m : Nat) : LiuPhase := if 8 < m then .window else if m = 0 then .recovering else .aborting

/-- Whether the last of `levels` is the seventh consecutive recessive one, for the first time, the given number of
recessive ones coming before them (R37). -/
def sevenRecessive : Nat → List Level → Bool
  | _, [] => false
  | n, b :: bs => if b then (if n = 6 then bs.isEmpty else sevenRecessive (n + 1) bs) else sevenRecessive 0 bs

/-- The number of recessive levels in a row at the end of `levels`, the given number coming before them, unless seven in
a row come among them (R37). -/
def shortRun : Nat → List Level → Option Nat
  | n, [] => some n
  | n, b :: bs => if b then (if n = 6 then none else shortRun (n + 1) bs) else shortRun 0 bs

/-! ### A frame as its sender samples it (R26 to R28, R32, R38) -/

/-- What a sender has found at the last level it sampled. -/
inductive TxFinding where
  /-- Nothing yet: the frame goes on. -/
  | ongoing
  /-- Contention lost in the class, key or kind field, or at a beat among them. -/
  | lostHeader
  /-- Contention lost in the source field. -/
  | lostSource
  /-- A fault. -/
  | fault (kind : FaultKind)
  /-- The end field was sent and read clean. -/
  | ended (window : Window)
  /-- Levels follow the one at which the frame was decided: no sender samples these. -/
  | overrun
  deriving DecidableEq, Repr

/-- `f`, if no level follows the one it was found at. -/
def decidedAt (rest : List Level) (f : TxFinding) : TxFinding := if rest.isEmpty then f else .overrun

/-- The window and end field as the sender samples them: `n` of their levels have been sampled, `seen` holds them,
`run` is the dominant run so far, and `answered` says that the own slot has shown a dominant level (R32). -/
def txTail (own : Station) : Nat → List Level → Nat → Bool → List Level → TxFinding
  | n, seen, _, _, [] => if n = 71 then .ended (windowOf seen) else .ongoing
  | n, seen, run, answered, b :: bs =>
    let run' := if b then 0 else run + 1
    if n < 64 then
      let answered' := answered || (decide (n / 2 = own.val) && !b)
      if n = 2 * own.val + 1 ∧ answered' = true then decidedAt bs (.fault .slot)
      else txTail own (n + 1) (seen ++ [b]) run' answered' bs
    else if n < 71 then
      if b then txTail own (n + 1) seen run' answered bs else decidedAt bs (.fault (runKind run' .bit))
    else .overrun

/-- The levels from the start bit to the last check bit as the sender samples them, against the levels it drives: `i`
is the place in the frame, the start bit at 0. Places 1 to 19 are the class, key and kind fields and the two beats
among them, places 20 to 24 the source field (R22, R26, R27). -/
def txSpan (own : Station) : Nat → Nat → List Level → List Level → TxFinding
  | _, run, [], sampled => txTail own 0 [] run false sampled
  | _, _, _ :: _, [] => .ongoing
  | i, run, d :: ds, b :: bs =>
    let run' := if b then 0 else run + 1
    if d = b then txSpan own (i + 1) run' ds bs
    else if b then decidedAt bs (.fault .bit)
    else if 1 ≤ i ∧ i ≤ 19 then decidedAt bs .lostHeader
    else if 20 ≤ i ∧ i ≤ 24 then decidedAt bs .lostSource
    else decidedAt bs (.fault (runKind run' .bit))

/-- What the sender of `f` has found in the levels sampled from its start bit on. -/
def txScan (f : Frame) (sampled : List Level) : TxFinding := txSpan f.source 0 0 f.levels sampled

/-- The phase of the sender of `f` after these levels of it (R39). -/
def txPhaseAt (f : Frame) (sampled : List Level) : LiuPhase :=
  if sampled.length < f.levels.length then .sending
  else if sampled.length < f.levels.length + 64 then .window else .ending

/-- Whether some slot of the window other than that of station `own` was answered (R38). -/
def answeredBesides (own : Station) (w : Window) : Bool :=
  (List.finRange 32).any fun st => decide (st ≠ own) && decide (w[st] ≠ .absent)

/-- The outcome decided at the last level sampled, with the window (R38). -/
def outcomeOf (f : Frame) (sampled : List Level) : Option (TxOutcome × Option Window) :=
  match txScan f sampled with
  | .lostHeader => some (.outbid, none)
  | .lostSource => some (.collided, none)
  | .ended w => some (if answeredBesides f.source w then .completed else .unheard, some w)
  | .ongoing | .fault _ | .overrun => none

/-- The fault the sender of `f` finds at the last level sampled (R28, R32, R36). -/
def txFaultNow (f : Frame) (sampled : List Level) : Option FaultKind :=
  match txScan f sampled with
  | .fault k => some k
  | .ongoing | .lostHeader | .lostSource | .ended _ | .overrun => none

end Sys2Proof.Machine
end

