-- ==== Sys2Proof/Machine/Flags.lean ====
section
/-! DEFINITION. Reasons, the station notice set, the attention line, and sets of stations: every flag of the part and
how it is raised. -/

namespace Sys2Proof.Machine

/-! ### Sets of stations -/

/-- Whether `st` is in the set. -/
def inSet (x : StationSet) (st : Station) : Bool := x.getLsbD st.val

/-- The set holding `st` alone. -/
def onlyStation (st : Station) : StationSet := BitVec.twoPow 32 st.val

/-! ### Reasons (R168) -/

/-- The sixteen reasons, in the order of their bits (section 12.3). -/
inductive Reason where
  | updated | stale | orphaned | shape | conflict | delivered | undelivered | sendFailed | pullUnanswered
  | claimRefused | claimLost | claimTimeout | ownerGained | ownerLost | yieldFailed | holdExpired
  deriving DecidableEq, Repr

/-- The bit of a reason in the 16-bit reason set (section 12.3). -/
def Reason.bitIndex : Reason → Nat
  | .updated => 0
  | .stale => 1
  | .orphaned => 2
  | .shape => 3
  | .conflict => 4
  | .delivered => 5
  | .undelivered => 6
  | .sendFailed => 7
  | .pullUnanswered => 8
  | .claimRefused => 9
  | .claimLost => 10
  | .claimTimeout => 11
  | .ownerGained => 12
  | .ownerLost => 13
  | .yieldFailed => 14
  | .holdExpired => 15

/-- The set holding this reason alone. -/
def Reason.alone (r : Reason) : ReasonSet := BitVec.twoPow 16 r.bitIndex

/-! ### The station notice set (R175) -/

/-- The station notices, in the order of their bits (section 12.3). -/
inductive StationNotice where
  | joined | standing | recovered | halted | duplicateStation | deferred
  deriving DecidableEq, Repr

/-- The bit of a station notice (section 12.3). -/
def StationNotice.bitIndex : StationNotice → Nat
  | .joined => 0
  | .standing => 1
  | .recovered => 2
  | .halted => 3
  | .duplicateStation => 4
  | .deferred => 5

/-- The set holding this station notice alone. -/
def StationNotice.alone (n : StationNotice) : FlagSet := BitVec.twoPow 6 n.bitIndex

/-- `s` with station notice `n` set (R175). -/
def setFlag (s : State) (n : StationNotice) : State := { s with flags := s.flags ||| n.alone }

/-- The level of the attention line: asserted while the notice queue holds a record or the station notice set a flag
(R177). -/
def State.attention (s : State) : Bool := !s.notices.isEmpty || decide (s.flags ≠ 0)

end Sys2Proof.Machine
end

