-- ==== Sys2Proof/Machine/Operands.lean ====
section
/-! DEFINITION. The bytes of the local port: operand layouts, coded values, and reply layouts (section 12.3). -/

namespace Sys2Proof.Machine

/-! ### Multi-byte operands and results, most significant byte first (R178) -/

/-- The byte at position `p` of a transaction, the command code being at position 0; `ops` are the bytes after it. -/
def byteAt (ops : List Byte) (p : Nat) : Byte := ops.getD (p - 1) 0

/-- The 16-bit number at positions `p` and `p + 1`. -/
def word16At (ops : List Byte) (p : Nat) : Nat := (byteAt ops p).toNat * 256 + (byteAt ops (p + 1)).toNat

/-- The 32-bit field at positions `p` to `p + 3`. -/
def word32At (ops : List Byte) (p : Nat) : BitVec 32 :=
  byteAt ops p ++ byteAt ops (p + 1) ++ byteAt ops (p + 2) ++ byteAt ops (p + 3)

/-- A number as two bytes. -/
def bytes16 (n : Nat) : List Byte := [BitVec.ofNat 8 (n / 256), BitVec.ofNat 8 n]

/-- A 32-bit field as four bytes. -/
def bytes32 (x : BitVec 32) : List Byte :=
  [x.extractLsb' 24 8, x.extractLsb' 16 8, x.extractLsb' 8 8, x.extractLsb' 0 8]

/-! ### Status codes (R183) -/

/-- The status byte of a reply. -/
inductive Status where
  | ok | empty | busyTable | badState | badArg | badConfig | badCommand | badLength | badItem
  deriving DecidableEq, Repr

/-- The code of a status. -/
def Status.code : Status → Byte
  | .ok => 0x00
  | .empty => 0x01
  | .busyTable => 0x02
  | .badState => 0x03
  | .badArg => 0x04
  | .badConfig => 0x05
  | .badCommand => 0x06
  | .badLength => 0x07
  | .badItem => 0x08

/-- A reply of the status byte alone. -/
def statusOnly (st : Status) : List Byte := [st.code]

/-! ### Coded values (section 12.3) -/

/-- The code of a configured role. -/
def ConfigRole.code : ConfigRole → Byte
  | .unused => 0x00
  | .publisher => 0x01
  | .subscriber => 0x02

/-- The configured role of a code (R188). -/
def ConfigRole.ofCode (b : Byte) : Option ConfigRole :=
  if b = 0x00 then some .unused else if b = 0x01 then some .publisher else if b = 0x02 then some .subscriber else none

/-- The code of a role. -/
def Role.code : Role → Byte
  | .unused => 0x00
  | .publisher => 0x01
  | .subscriber => 0x02
  | .yielding => 0x03
  | .claiming => 0x04

/-- The byte of a class; the class of an unused entry reads as 0. -/
def FrameClass.byte : FrameClass → Byte
  | .system => 0x00
  | .urgent => 0x01
  | .normal => 0x02
  | .bulk => 0x03

/-- The item class of a code; SYSTEM and values above 03H are none (R188). -/
def itemClassOf (b : Byte) : Option FrameClass :=
  if b = 0x01 then some .urgent else if b = 0x02 then some .normal else if b = 0x03 then some .bulk else none

/-- The code of a mirror state, or the absent code. -/
def mirrorCode : Option MirrorState → Byte
  | some .empty => 0x00
  | some .fresh => 0x01
  | some .stale => 0x02
  | some .orphaned => 0x03
  | none => 0xFF

/-- The code of a source, or the absent code. -/
def sourceCode : Option Origin → Byte
  | some o => BitVec.ofNat 8 o.station.val
  | none => 0xFF

/-- The code of a delivery state. -/
def deliveryCode : Option Delivery → Byte
  | none => 0x00
  | some d =>
    match d.state with
    | .opened => 0x01
    | .delivered => 0x02
    | .undelivered => 0x03

/-- The code of a lifecycle. -/
def Lifecycle.code : Lifecycle → Byte
  | .configuring => 0x00
  | .joining => 0x01
  | .online => 0x02
  | .leaving => 0x03
  | .halted => 0x04

/-- The code of a standing. -/
def Standing.code : Standing → Byte
  | .good => 0x00
  | .cautious => 0x01
  | .muted => 0x02

/-- The code of the last fault kind. -/
def faultCode : Option FaultKind → Byte
  | none => 0x00
  | some .bit => 0x01
  | some .beat => 0x02
  | some .form => 0x03
  | some .check => 0x04
  | some .slot => 0x05
  | some .abortSeen => 0x06
  | some .noReceipt => 0x07

/-- The two bits of a roster state. -/
def RosterState.code : RosterState → Nat
  | .absent => 0
  | .present => 1
  | .silent => 2

/-- The bit rate of a rate code (R187). -/
def BitRate.ofCode (b : Byte) : Option BitRate :=
  if b = 0x00 then some .kbit100 else if b = 0x01 then some .kbit200
  else if b = 0x02 then some .kbit400 else if b = 0x03 then some .kbit800 else none

/-- The reasons START gives with BAD-CONFIG (R159). -/
inductive ConfigFailure where
  | stationUnset | windowShort | noModes (entry : EntryIx) | ownReceiver (entry : EntryIx)
  deriving DecidableEq, Repr

/-- The reply of a failed START: reason code and entry index, FFH for none (R189). -/
def ConfigFailure.reply : ConfigFailure → List Byte
  | .stationUnset => [Status.badConfig.code, 0x01, 0xFF]
  | .windowShort => [Status.badConfig.code, 0x02, 0xFF]
  | .noModes i => [Status.badConfig.code, 0x03, BitVec.ofNat 8 i.val]
  | .ownReceiver i => [Status.badConfig.code, 0x04, BitVec.ofNat 8 i.val]

/-! ### Operand layouts -/

/-- The parameters SET-STATION's operands name, where each is in its range (R157, R187). -/
def stationOperands (ops : List Byte) : Option StationParams :=
  let station := (byteAt ops 1).toNat
  let announce := word16At ops 3
  let window := word16At ops 5
  let claim := word16At ops 7
  let pull := word16At ops 9
  let hold := (byteAt ops 11).toNat
  match BitRate.ofCode (byteAt ops 2) with
  | none => none
  | some rate =>
    if station ≤ 31 ∧ (10 ≤ announce ∧ announce ≤ 1000) ∧ (30 ≤ window ∧ window ≤ 10000) ∧ (5 ≤ claim ∧ claim ≤ 1000)
        ∧ (2 ≤ pull ∧ pull ≤ 500) ∧ (1 ≤ hold ∧ hold ≤ 250) then
      some { station := Fin.ofNat 32 station, rate, announce, window, claim, pull, hold }
    else none

/-- The bytes SET-ITEM needs after its code: 18, and the initial value of the given length where that is 12 or below
(R180, R188). -/
def itemBytesNeeded (ops : List Byte) : Nat :=
  18 + (if (byteAt ops 6).toNat ≤ 12 then (byteAt ops 6).toNat else 0)

/-- The `n` bytes from position `p` on. -/
def bytesFrom (ops : List Byte) (p n : Nat) : List Byte := (List.range n).map fun k => byteAt ops (p + k)

/-- The configuration part SET-ITEM's operands name, where the configured role is one of the three and every field the
entry carries is in its range; a field it does not carry is ignored and stored as zero (R5, R158, R188). -/
def itemOperands (ops : List Byte) : Option ItemConfig :=
  match ConfigRole.ofCode (byteAt ops 2) with
  | none => none
  | some .unused => some .unused
  | some role =>
    let options := byteAt ops 7
    let movable := options.getLsbD 0
    let carriesPublisher := decide (role = .publisher) || movable
    let carriesSubscriber := decide (role = .subscriber) || movable
    let key := word16At ops 3
    let length := (byteAt ops 6).toNat
    let onWrite := carriesPublisher && options.getLsbD 1
    let periodic := carriesPublisher && options.getLsbD 2
    let period := word16At ops 8
    let inhibit := word16At ops 10
    let required := if carriesPublisher then word32At ops 12 else 0
    let attemptLimit := (byteAt ops 16).toNat
    match itemClassOf (byteAt ops 5) with
    | none => none
    | some cls =>
      if (64 ≤ key ∧ key ≤ 4095) ∧ length ≤ 12 ∧ (periodic = true → 1 ≤ period)
          ∧ (carriesPublisher = true → inhibit ≤ 1000)
          ∧ (required ≠ 0 → 1 ≤ attemptLimit ∧ attemptLimit ≤ 15) then
        some {
          role, cls, length, movable, onWrite, periodic, required
          key := BitVec.ofNat 12 key
          period := if periodic then period else 0
          inhibit := if carriesPublisher then inhibit else 0
          attemptLimit := if required ≠ 0 then attemptLimit else 0
          initial := if role = .publisher then bytesFrom ops 19 length else List.replicate length 0
          freshness := if carriesSubscriber then word16At ops 17 else 0
          autoPull := carriesSubscriber && options.getLsbD 3 }
      else none

/-- The options byte of a configuration part as stored. -/
def optionsByte (c : ItemConfig) : Byte :=
  (if c.movable then 0x01 else 0) ||| (if c.onWrite then 0x02 else 0) ||| (if c.periodic then 0x04 else 0)
    ||| (if c.autoPull then 0x08 else 0)

/-! ### Reply layouts -/

/-- The value of an entry: the first *length* bytes of its storage (R10). -/
def valueOf (c : ItemConfig) (r : Runtime) : List Byte := r.storage.toList.take c.length

/-- SET-ITEM, OK: the operand layout with the fields as stored (R188). DESIGN CHOICE: byte 1 is the entry index in every
such reply, also where an entry stored as UNUSED "reads as zero throughout" (log entry 29). -/
def itemReply (i : EntryIx) (c : ItemConfig) : List Byte :=
  [Status.ok.code, BitVec.ofNat 8 i.val, c.role.code] ++ bytes16 c.key.toNat
    ++ [c.cls.byte, BitVec.ofNat 8 c.length, optionsByte c] ++ bytes16 c.period ++ bytes16 c.inhibit
    ++ bytes32 c.required ++ [BitVec.ofNat 8 c.attemptLimit] ++ bytes16 c.freshness ++ c.initial

/-- The age of a mirrored value: station time minus arrival time modulo 2^32, capped at 65535; 0 where no source is
recorded (R156, R185). -/
def ageOf (now : Time) : Option Origin → Nat
  | none => 0
  | some o => min (now - o.arrival).toNat 65535

/-- READ, OK (R185). -/
def readReply (now : Time) (c : ItemConfig) (r : Runtime) : List Byte :=
  [Status.ok.code, r.role.code, (if r.held then 0x01 else 0) ||| (if r.source.isSome then 0x02 else 0),
    mirrorCode r.mirror, r.generation, r.version, sourceCode r.source, BitVec.ofNat 8 c.length]
    ++ bytes16 (ageOf now r.source) ++ valueOf c r

/-- READ-DELIVERY, OK; a record in NONE reports version, attempts used, receipts and refused as 0 (R94). -/
def deliveryReply (c : ItemConfig) (d : Option Delivery) : List Byte :=
  [Status.ok.code, deliveryCode d, (d.map (·.version)).getD 0, BitVec.ofNat 8 ((d.map (·.attempts)).getD 0),
    BitVec.ofNat 8 c.attemptLimit]
    ++ bytes32 c.required ++ bytes32 ((d.map (·.receipts)).getD 0) ++ bytes32 ((d.map (·.refused)).getD 0)

/-- The 32 roster states, two bits each, station 0 in the low bits of the last byte (R140). -/
def rosterBytes (s : State) : List Byte :=
  let n := (List.finRange 32).foldl (fun acc st => acc + (s.record st).state.code * 4 ^ st.val) 0
  (List.range 8).map fun k => BitVec.ofNat 8 (n / 256 ^ (7 - k))

/-- READ-ROSTER, OK (R140). -/
def rosterReply (s : State) : List Byte :=
  [Status.ok.code, (s.params.map fun p => BitVec.ofNat 8 p.station.val).getD 0xFF] ++ rosterBytes s

/-- The number of entries that carry the deferred mark (R171). -/
def deferredCount (s : State) : Nat := (List.finRange 128).countP fun i => (s.rt i).deferred.isSome

/-- STATUS, OK (R186). -/
def statusReply (s : State) : List Byte :=
  [Status.ok.code, s.lifecycle.code, s.fcu.standing.code, BitVec.ofNat 8 s.fcu.score, BitVec.ofNat 8 s.fcu.cleanCount,
    faultCode s.fcu.lastFault, BitVec.ofNat 8 s.notices.length, BitVec.ofNat 8 (deferredCount s),
    BitVec.ofNat 8 s.pulls.length] ++ bytes32 s.time ++ [s.flags.setWidth 8]

/-- NEXT-NOTICE, OK: the record, the entry's snapshot and the number of records left (R173). -/
def noticeReply (n : NoticeRecord) (r : Runtime) (left : Nat) : List Byte :=
  [Status.ok.code, BitVec.ofNat 8 n.entry.val] ++ bytes16 n.reasons.toNat
    ++ [r.role.code, mirrorCode r.mirror, r.generation, r.version, BitVec.ofNat 8 left]

/-! ### The transport (R178 to R181) -/

/-- The bytes the port shifts out in a transaction of `n` whole bytes: the reply in the buffer and 00H after it, or FFH
throughout while the buffer holds no reply (R181). -/
def shiftOut (reply : Option (List Byte)) (n : Nat) : List Byte :=
  match reply with
  | none => List.replicate n 0xFF
  | some r => (List.range n).map fun k => r.getD k 0x00

/-- The bits the port clocked out in the last transaction, one byte for each byte clocked in (R178, R181). -/
def State.dataOut (s : State) : List Bool := s.shiftedOut.flatMap byteBits

/-- `s'` after a transaction with `ops` bytes after the code, taken in `s`: the port has shifted out the reply that was
in the buffer when chip-select was asserted, and the buffer holds the new one (R179, R181). -/
def withReply (s : State) (ops : List Byte) (s' : State) (reply : List Byte) : State :=
  { s' with shiftedOut := shiftOut s.reply (ops.length + 1), reply := some reply }

/-- The checks of R180 on the entry operand of a command other than SET-ITEM. -/
def entryOperand (s : State) (ops : List Byte) : Except Status EntryIx :=
  match ops with
  | [] => .error .badLength
  | b :: _ =>
    if h : b.toNat < 128 then
      if (s.cfg ⟨b.toNat, h⟩).role = .unused then .error .badItem else .ok ⟨b.toNat, h⟩
    else .error .badItem

end Sys2Proof.Machine
end

