-- ==== Sys2Proof/Machine/Ops.lean ====
section
/-! DEFINITION. The shared operations of the blocks: timers, posting, raising requests, the Pull Table, role changes,
the roster, the fault score and the lifecycle. The meanings of the commands are written over these. -/

namespace Sys2Proof.Machine

/-- A command's outcome: no command stops the part. -/
def done (s : State) : Host.Outcome State Fault Refusal := .next s

/-! ### Parameters and timers (R13, R157) -/

/-- The own number. -/
def State.own (s : State) : Station :=
  match s.params with
  | some p => p.station
  | none => Config.unsetNumber

/-- A duration parameter; `k` tells the parameters apart where none is set. -/
def durationParam (s : State) (f : StationParams → Nat) (k : Nat) : Nat :=
  match s.params with
  | some p => f p
  | none => (Config.unsetDuration k).val + 1

/-- A timer started at station time `now` with `d` milliseconds to run (R13). -/
def startTimer (now : Time) (d : Nat) : Timer := some ⟨now, d⟩

/-- Whether a timer is running and station time has advanced its duration from the start, modulo 2^32 (R13, R156). -/
def timerDue (now : Time) : Timer → Bool
  | none => false
  | some r => decide (r.duration ≤ (now - r.started).toNat)

/-- Whether a number `b` is newer than `a` in serial order (R2). -/
def newer (a b : Byte) : Bool := decide (1 ≤ (b - a).toNat ∧ (b - a).toNat ≤ 127)

/-- The lowest entry index with a property. -/
def lowestEntry (p : EntryIx → Bool) : Option EntryIx := (List.finRange 128).find? p

/-- The entries with a property, in ascending index. -/
def entriesWhere (p : EntryIx → Bool) : List EntryIx := (List.finRange 128).filter p

/-- The value storage with a payload written to its first bytes (R10). -/
def storeValue (old : Vector Byte 12) (payload : List Byte) : Vector Byte 12 :=
  Vector.ofFn fun k => (payload[k.val]?).getD old[k]

/-- Whether the role is a mirror role (R9). -/
def Role.isMirror (r : Role) : Bool := decide (r = .subscriber) || decide (r = .claiming)

/-- The runtime part at the reset values of a configuration (R19). -/
def resetRuntime (c : ItemConfig) : Runtime :=
  match c.role with
  | .unused => .unused
  | .publisher => { Runtime.unused with role := .publisher, storage := storeValue Runtime.unused.storage c.initial }
  | .subscriber => { Runtime.unused with role := .subscriber, mirror := some .empty }

/-! ### Notice Queue (R168 to R173) -/

/-- `s` with the reasons `rs` posted for entry `i` (R169); the empty set is no posting. -/
def post (s : State) (i : EntryIx) (rs : ReasonSet) : State :=
  if rs = 0 then s
  else if s.notices.any fun n => decide (n.entry = i) then
    { s with notices := s.notices.map fun n => if n.entry = i then { n with reasons := n.reasons ||| rs } else n }
  else
    match (s.rt i).deferred with
    | some d => s.modRt i fun r => { r with deferred := some (d ||| rs) }
    | none =>
      if s.notices.length < 32 then { s with notices := s.notices ++ [⟨i, rs⟩] }
      else setFlag (s.modRt i fun r => { r with deferred := some rs }) .deferred

/-- The refill that goes with the removal of a record: the lowest marked entry enters the queue (R172). -/
def refillNotices (s : State) : State :=
  match lowestEntry fun i => (s.rt i).deferred.isSome with
  | none => s
  | some i =>
    let t := s.modRt i fun r => { r with deferred := none }
    { t with notices := t.notices ++ [⟨i, ((s.rt i).deferred).getD 0⟩] }

/-- `s` with the record of entry `i`, if there is one, removed from the queue and the queue refilled (R172). -/
def removeNotice (s : State) (i : EntryIx) : State :=
  if s.notices.any fun n => decide (n.entry = i) then
    refillNotices { s with notices := s.notices.filter fun n => !decide (n.entry = i) }
  else s

/-! ### Raising requests (R12, R65, R66) -/

/-- `s` with PUBLISH raised for entry `i`, merging into a pending one, whose count it keeps (R65). -/
def raisePublish (s : State) (i : EntryIx) : State :=
  s.modRt i fun r =>
    if r.role = .publisher then { r with pending := { r.pending with publish := some (r.pending.publish.getD 0) } } else r

/-- The strength of an announce type (R66). -/
def AnnounceType.strength : AnnounceType → Nat
  | .present => 0
  | .join => 1
  | .leave => 2

/-- The station announce request after `a` meets the present one: a stronger type takes its place with its own count,
another is absorbed (R66). -/
def combineAnnounce (present : Option AnnounceRequest) (a : AnnounceRequest) : Option AnnounceRequest :=
  match present with
  | none => some a
  | some p => if p.type.strength < a.type.strength then some a else some p

/-- `s` with an announce of type `t` raised (R66). -/
def raiseAnnounce (s : State) (t : AnnounceType) : State := { s with announce := combineAnnounce s.announce ⟨t, 0⟩ }

/-! ### Pull Table (R95 to R105) -/

/-- The Pull Table record of entry `i`. -/
def findPull (s : State) (i : EntryIx) : Option PullRecord := s.pulls.find? fun p => decide (p.entry = i)

/-- `s` with the Pull Table record of entry `i` changed by `f`. -/
def modPull (s : State) (i : EntryIx) (f : PullRecord → PullRecord) : State :=
  { s with pulls := s.pulls.map fun p => if p.entry = i then f p else p }

/-- `s` with PULL pending for entry `i` (R99). -/
def raisePull (s : State) (i : EntryIx) : State :=
  s.modRt i fun r => { r with pending := { r.pending with pull := true } }

/-- `s` with a record for entry `i` added in WAITING and PULL raised for it (R95, R99). -/
def addPull (s : State) (i : EntryIx) : State :=
  raisePull { s with pulls := s.pulls ++ [⟨i, .waiting, 0, none, false, false⟩] } i

/-- The refill that goes with the removal of a record: the lowest entry that carries the pull-wanted mark gets the
free record (R96). -/
def refillPulls (s : State) : State :=
  match lowestEntry fun i => (s.rt i).pullWanted with
  | none => s
  | some i => addPull (s.modRt i fun r => { r with pullWanted := false }) i

/-- `s` with the record of entry `i`, if there is one, removed together with its pending PULL, and the table refilled
(R96, R100, R103, R105). -/
def removePull (s : State) (i : EntryIx) : State :=
  if (findPull s i).isSome then
    refillPulls
      (({ s with pulls := s.pulls.filter fun p => !decide (p.entry = i) } : State).modRt i fun r =>
        { r with pending := { r.pending with pull := false } })
  else s

/-- An auto-pull request of entry `i` as the Pull Unit takes it (R98). -/
def takeAutoPull (s : State) (i : EntryIx) : State :=
  if (s.rt i).role = .subscriber then
    if (findPull s i).isSome then s
    else if s.pulls.length < 8 then addPull s i
    else s.modRt i fun r => { r with pullWanted := true }
  else s

/-- `s` after entry `i` asks for an auto-pull, if so configured (R98). -/
def requestAutoPull (s : State) (i : EntryIx) : State := if (s.cfg i).autoPull then takeAutoPull s i else s

/-- The auto-pull requests `is` of one orphaning. Where the free records do not reach for all of them, the order in
which they are taken is free (log entry 5). -/
def takeAutoPulls (s : State) (is : List EntryIx) : State :=
  if s.pulls.length + (is.countP fun i => (findPull s i).isNone) ≤ 8 then is.foldl takeAutoPull s
  else
    (is.insertionSort fun a b => Config.autoPullRank s.draws a ≤ Config.autoPullRank s.draws b).foldl takeAutoPull
      { s with draws := s.draws + 1 }

/-! ### Role changes (section 1.6) -/

/-- The period timer of an entry that enters role PUBLISHER (R15, R16, R69). -/
def periodOnEntry (s : State) (c : ItemConfig) : Timer :=
  if c.periodic ∧ s.lifecycle = .online then startTimer s.time c.period else none

/-- The freshness timer started afresh, where there is a limit (R57). -/
def freshnessOf (now : Time) (c : ItemConfig) : Timer := if c.freshness = 0 then none else startTimer now c.freshness

/-- Entry `i` enters role PUBLISHER from a mirror role with the given counters and storage: R15, with PUBLISH raised at
count 0 and OWNER-GAINED posted (R116, R123). -/
def enterPublisher (s : State) (i : EntryIx) (g v : Byte) (storage : Vector Byte 12) : State :=
  let s := removePull s i
  post (s.modRt i fun r =>
    { r with
      role := .publisher, mirror := none, source := none, freshTimer := none, held := false, holdTimer := none
      claim := none, claimTimer := none, pullWanted := false
      generation := g, version := v, storage := storage, delivery := none
      inhibitTimer := none, periodTimer := periodOnEntry s (s.cfg i)
      pending := { PendingSet.none with publish := some 0 } }) i Reason.ownerGained.alone

/-- Adoption of the item of entry `i` (R116). -/
def adopt (s : State) (i : EntryIx) : State :=
  enterPublisher s i ((s.rt i).generation + 1) (s.rt i).version (s.rt i).storage

/-- Entry `i` enters role YIELDING toward `claimant` (R16). -/
def enterYielding (s : State) (i : EntryIx) (claimant : Station) : State :=
  s.modRt i fun r =>
    { r with
      role := .yielding, yield := some ⟨claimant, 0⟩, periodTimer := none, inhibitTimer := none
      pending := { r.pending with publish := none, yield := true } }

/-- The yield of entry `i` fails: it returns to role PUBLISHER (R16, R121). -/
def failYield (s : State) (i : EntryIx) : State :=
  post (s.modRt i fun r =>
    { r with
      role := .publisher, yield := none, periodTimer := periodOnEntry s (s.cfg i)
      pending := { r.pending with publish := some 0, yield := false } }) i Reason.yieldFailed.alone

/-- Entry `i` enters role SUBSCRIBER from a publisher role as a FRESH mirror of `source` (R17). -/
def enterMirror (s : State) (i : EntryIx) (source : Station) (g v : Byte) (storage : Vector Byte 12) : State :=
  s.modRt i fun r =>
    { r with
      role := .subscriber, mirror := some .fresh, source := some ⟨source, s.time⟩
      generation := g, version := v, storage := storage, freshTimer := freshnessOf s.time (s.cfg i)
      pending := { r.pending with publish := none, yield := false }, yield := none
      periodTimer := none, inhibitTimer := none, delivery := none
      held := false, holdTimer := none, pullWanted := false }

/-- Entry `i` returns from CLAIMING to SUBSCRIBER, posting `reason` (R18). -/
def endClaim (s : State) (i : EntryIx) (reason : Reason) : State :=
  let s := s.modRt i fun r =>
    { r with
      role := .subscriber, claim := none, claimTimer := none, pullWanted := false
      pending := { r.pending with claim := false }
      freshTimer := if r.mirror = some .fresh then freshnessOf s.time (s.cfg i) else r.freshTimer }
  let s := post s i reason.alone
  if (s.rt i).mirror = some .stale ∨ (s.rt i).mirror = some .orphaned then requestAutoPull s i else s

/-! ### LIU (R25, R39, R40) -/

/-- Whether the LIU is receive-only (R40). -/
def receiveOnly (s : State) : Bool :=
  decide (s.lifecycle = .joining)
    || (decide (s.fcu.standing = .muted) && (decide (s.lifecycle = .online) || decide (s.lifecycle = .leaving)))

/-- The LIU between frames, after a change of lifecycle or standing: LISTENING while receive-only, RESTING on leaving
it, with the count already made kept (R40). -/
def settleLiu (s : State) : State :=
  if receiveOnly s then
    if s.liu.phase = .resting ∨ s.liu.phase = .idle then { s with liu := { s.liu with phase := .listening } } else s
  else if s.liu.phase = .listening then { s with liu := { s.liu with phase := .resting } }
  else s

/-- The LIU after the end of a frame or after recovery, holding the window `w` of the frame (R25, R33, R37). -/
def betweenFrames (s : State) (w : Option Window) : State :=
  { s with liu := { s.liu with
      phase := if receiveOnly s then .listening else .resting
      sampled := [], contention := .none, fault := none, window := w, markBits := 0, recovery := 0, gap := 0 } }

/-- The join-quiet count carried over the levels of a frame (R40). -/
def countJoinQuiet (s : State) (levels : List Level) : State :=
  if s.lifecycle = .joining then { s with liu := { s.liu with joinQuiet := recessiveRun s.liu.joinQuiet levels } } else s

/-! ### Lifecycle (R162, R165) -/

/-- What entry to HALTED does to an entry: its timers stop, its claim ends and its hold clears (R165). -/
def haltRuntime (r : Runtime) : Runtime :=
  { r with
    role := if r.role = .claiming then .subscriber else r.role
    claim := none, claimTimer := none, pending := { r.pending with claim := false }
    periodTimer := none, inhibitTimer := none, freshTimer := none, holdTimer := none, held := false }

/-- What entry to HALTED does to a Pull Table record (R95). -/
def haltPull (p : PullRecord) : PullRecord := { p with replyTimer := none, onLine := false, mergeWatch := false }

/-- Entry to HALTED, from any cause (R165). -/
def halt (s : State) : State :=
  let claims := entriesWhere fun i => decide ((s.rt i).role = .claiming)
  let s := s.mapRt fun _ _ r => haltRuntime r
  let s := claims.foldl (fun s i => post s i Reason.claimTimeout.alone) s
  let s := s.mapRoster fun st r =>
    if st = s.own then RosterRecord.cleared else { r with silence := none }
  setFlag { s with
    pulls := s.pulls.map haltPull, announceTimer := none, inFlight := none, verdict := none
    liu := Liu.off, lifecycle := .halted } .halted

/-- Entry to ONLINE (R162). -/
def enterOnline (s : State) : State :=
  let s := { s with lifecycle := .online }
  let s := s.mapRt fun _ c r =>
    if r.role = .publisher then { r with periodTimer := periodOnEntry s c } else r
  let s := s.mapRoster fun st r => if st = s.own then ⟨.present, none⟩ else r
  let s := { s with announceTimer := startTimer s.time (durationParam s (·.announce) 0) }
  settleLiu (setFlag (raiseAnnounce s .join) .joined)

/-! ### Fault Confinement Unit (R142 to R153) -/

/-- The standing of a score (R146). -/
def standingOf (score : Nat) : Standing :=
  if score < 48 then .good else if score ≤ 119 then .cautious else .muted

/-- `s` with the score `n`, the standing judged from it, and a change of standing noted; on entry to MUTED the clean
count is 0 (R146, R148). -/
def setScore (s : State) (n : Nat) : State :=
  let t := { s with fcu := { s.fcu with
      score := n, standing := standingOf n
      cleanCount := if standingOf n = .muted ∧ s.fcu.standing ≠ .muted then 0 else s.fcu.cleanCount } }
  if standingOf n = s.fcu.standing then t else setFlag t .standing

/-- Whether events move the score: in ONLINE and LEAVING, while not MUTED (R142). -/
def scoring (s : State) : Bool :=
  (decide (s.lifecycle = .online) || decide (s.lifecycle = .leaving)) && decide (s.fcu.standing ≠ .muted)

/-- The outcome of an own frame as the FCU takes it (R143). -/
def scoreOutcome (s : State) (o : TxOutcome) : State :=
  if scoring s then
    match o with
    | .completed => setScore s (s.fcu.score - 2)
    | .unheard => if s.fcu.standing = .good then setScore s (s.fcu.score + 6) else s
    | .destroyed => setScore s (s.fcu.score + 6)
    | .outbid | .collided => s
  else s

/-- `s` with the last fault kind replaced (R145). -/
def noteFault (s : State) (k : FaultKind) : State := { s with fcu := { s.fcu with lastFault := some k } }

/-- Whether a fault kind is one a receiver is charged with (R144). -/
def FaultKind.charged : FaultKind → Bool
  | .beat | .form | .check => true
  | .bit | .slot | .abortSeen | .noReceipt => false

/-- A fault found in a received frame as the FCU takes it (R144, R145, R150). -/
def scoreReceiverFault (s : State) (k : FaultKind) : State :=
  let s := noteFault s k
  if k.charged then
    if scoring s then setScore s (s.fcu.score + 1)
    else if s.fcu.standing = .muted ∧ (s.lifecycle = .online ∨ s.lifecycle = .leaving) then
      { s with fcu := { s.fcu with cleanCount := 0 } }
    else s
  else s

/-- The return from MUTED at a score, by clean count or by REJOIN (R151, R152). -/
def leaveMuted (s : State) (score : Nat) : State :=
  let s := { s with fcu := { s.fcu with score := score, standing := standingOf score, cleanCount := 0 } }
  settleLiu (raiseAnnounce (setFlag (setFlag s .standing) .recovered) .join)

/-- The completion of a received frame as the FCU takes it (R144, R150, R151). -/
def scoreCompletion (s : State) : State :=
  if scoring s then setScore s (s.fcu.score - 1)
  else if s.fcu.standing = .muted ∧ s.lifecycle = .online then
    if s.fcu.cleanCount + 1 < 48 then { s with fcu := { s.fcu with cleanCount := s.fcu.cleanCount + 1 } }
    else leaveMuted s 0
  else s

/-- The reports of a new standing to the LIU and to Station Control: a station MUTED in LEAVING halts (R148, R164). -/
def reportStanding (s : State) : State :=
  if s.lifecycle = .leaving ∧ s.fcu.standing = .muted then halt s else settleLiu s

/-! ### Station Roster (R130 to R137) -/

/-- A roster record on evidence (R131). -/
def presentNow (s : State) : RosterRecord := ⟨.present, startTimer s.time (durationParam s (·.window) 1)⟩

/-- Presence evidence of a window, and of a source where the frame was received (R131). -/
def takeEvidence (s : State) (source : Option Station) (w : Window) : State :=
  s.mapRoster fun st r =>
    if st ≠ s.own ∧ (source = some st ∨ w[st] ≠ .absent) then presentNow s else r

/-- What orphaning does to an entry it reaches (R134). -/
def orphanRuntime (r : Runtime) : Runtime :=
  { r with
    mirror := some .orphaned, freshTimer := none
    claim := r.claim.map fun c => { c with kind := .adopt } }

/-- Whether the orphaning of `st` reaches an entry (R134). -/
def orphanHits (st : Station) (r : Runtime) : Bool :=
  r.role.isMirror && (decide (r.mirror = some .fresh) || decide (r.mirror = some .stale))
    && decide (r.source.map (·.station) = some st)

/-- The orphaning of station `st` (R134, R170). -/
def orphan (s : State) (st : Station) : State :=
  let hits := entriesWhere fun i => orphanHits st (s.rt i)
  let s := s.mapRt fun _ _ r => if orphanHits st r then orphanRuntime r else r
  let s := hits.foldl (fun s i => post s i Reason.orphaned.alone) s
  takeAutoPulls s (hits.filter fun i => decide ((s.rt i).role = .subscriber) && (s.cfg i).autoPull)

/-- Whether an entry is yielding to `st`. -/
def yieldsTo (st : Station) (r : Runtime) : Bool :=
  decide (r.role = .yielding) && decide (r.yield.map (·.target) = some st)

/-- The loss report for station `st` (R136). -/
def reportLoss (s : State) (st : Station) : State :=
  (entriesWhere fun i => yieldsTo st (s.rt i)).foldl failYield s

/-- The orphaning of `st` with the loss report for it. Their postings have no order of their own (R170): where both
have any, the order is free (log entry 6). -/
def orphanAndReport (s : State) (st : Station) : State :=
  if (lowestEntry fun i => orphanHits st (s.rt i)).isSome ∧ (lowestEntry fun i => yieldsTo st (s.rt i)).isSome then
    let t := { s with draws := s.draws + 1 }
    if Config.lossReportFirst s.draws then orphan (reportLoss t st) st else reportLoss (orphan t st) st
  else reportLoss (orphan s st) st

/-- `s` with the roster record of `st` replaced, the own record excepted (R130). -/
def setRecord (s : State) (st : Station) (r : RosterRecord) : State :=
  s.mapRoster fun x old => if x = st ∧ x ≠ s.own then r else old

/-- A completed ANNOUNCE of type `t` from station `st`, with the window it closed with (R133). -/
def hearAnnounce (s : State) (st : Station) (t : AnnounceType) (w : Window) : State :=
  let s := takeEvidence s none (w.set st.val .absent)
  match t with
  | .join => orphan (setRecord s st (presentNow s)) st
  | .present => setRecord s st (presentNow s)
  | .leave => orphanAndReport (setRecord s st .cleared) st

/-- The own announce timer started again, while ONLINE (R137). -/
def restartAnnounceTimer (s : State) : State :=
  if s.lifecycle = .online then { s with announceTimer := startTimer s.time (durationParam s (·.announce) 0) } else s

end Sys2Proof.Machine
end

