-- ==== Sys2Proof/Machine/Acceptance.lean ====
section
/-! DEFINITION. The Acceptance Unit: the verdict on a received frame at its verdict point, and what each verdict does at
completion (chapters 3, 6 and 7). -/

namespace Sys2Proof.Machine

/-! ### Verdicts -/

/-- What a rule says of a frame: a verdict, a slot answer, the reasons to post at completion and the station to be
recorded as source (R42). -/
structure Judgement where
  verdict : Verdict
  answer : SlotSymbol
  reasons : ReasonSet
  effective : Option Station
  deriving DecidableEq, Repr

/-- IGNORE, SEEN (R42). -/
def ignoreWith (reasons : ReasonSet) : Judgement := ⟨.ignore, .seen, reasons, none⟩

/-- DEFER, BUSY (R47, R106, R117). -/
def deferred : Judgement := ⟨.defer, .busy, 0, none⟩

/-- ACCEPT, TAKEN. -/
def acceptFrom (effective : Station) (reasons : ReasonSet) : Judgement := ⟨.accept, .taken, reasons, some effective⟩

/-- An older frame is ignored, a newer one accepted, an equal one a refresh, by its version (R50, R52). -/
def judgeVersion (held version : Byte) (effective : Station) : Judgement :=
  if newer held version then acceptFrom effective Reason.updated.alone
  else if version = held then ⟨.refresh, .taken, 0, some effective⟩
  else ignoreWith 0

/-- At equal generations, a publication by another station than the recorded source (R51). -/
def judgeRival (recorded sender effective : Station) : Judgement :=
  if sender < recorded then acceptFrom effective (Reason.updated.alone ||| Reason.conflict.alone) else ignoreWith 0

/-- A publication at a mirror: `sender` and `effective` differ for a YIELD, whose new owner is the effective source
(R48 to R52). -/
def judgeMirror (r : Runtime) (sender effective : Station) (g v : Byte) : Judgement :=
  match r.mirror, r.source with
  | some .fresh, some o | some .stale, some o =>
    if newer r.generation g then acceptFrom effective Reason.updated.alone
    else if g = r.generation then
      if sender = o.station ∨ effective = o.station then judgeVersion r.version v effective
      else judgeRival o.station sender effective
    else ignoreWith 0
  | _, _ => acceptFrom effective Reason.updated.alone

/-- A competing publication at an owning entry: the conflict rule (R124, R127). -/
def judgeConflict (own : Station) (c : ItemConfig) (r : Runtime) (sender effective : Station) (g : Byte) : Judgement :=
  if newer r.generation g ∨ (g = r.generation ∧ sender < own) then
    if c.movable then ⟨.depose, .taken, Reason.ownerLost.alone ||| Reason.conflict.alone, some effective⟩
    else ⟨.outranked, .seen, Reason.conflict.alone, none⟩
  else ⟨.reassert, .seen, Reason.conflict.alone, none⟩

/-- A YIELD that names this station as new owner (R122). -/
def judgeYieldToSelf (c : ItemConfig) (r : Runtime) : Judgement :=
  if r.role = .publisher ∨ r.role = .yielding then ⟨.reassert, .seen, Reason.conflict.alone, none⟩
  else if c.movable then ⟨.assume, .taken, Reason.ownerGained.alone, none⟩
  else ignoreWith 0

/-- A PULL (R106). -/
def judgePull (r : Runtime) : Judgement :=
  match r.role with
  | .publisher => ⟨.serve, .taken, 0, none⟩
  | .yielding => deferred
  | .subscriber | .claiming | .unused => ignoreWith 0

/-- A CLAIM (R117). -/
def judgeClaim (c : ItemConfig) (r : Runtime) : Judgement :=
  match r.role with
  | .publisher => if c.movable then ⟨.cede, .taken, 0, none⟩ else ignoreWith 0
  | .yielding => deferred
  | .subscriber | .claiming | .unused => ignoreWith 0

/-- A PUBLISH or a YIELD, by the role of the matching entry (R43). -/
def judgePublication (own : Station) (c : ItemConfig) (r : Runtime) (sender effective : Station) (g v : Byte) :
    Judgement :=
  if r.role.isMirror then judgeMirror r sender effective g v else judgeConflict own c r sender effective g

/-- The hold: a verdict that would answer TAKEN at a held entry becomes DEFER (R47). -/
def judgeHold (r : Runtime) (j : Judgement) : Judgement := if r.held ∧ j.answer = .taken then deferred else j

/-- A frame at the entry that holds its key: the length check, the rule for kind and role, then the hold (R43, R46). -/
def judgeEntry (own : Station) (c : ItemConfig) (r : Runtime) (f : Frame) : Judgement :=
  match f.body with
  | .publish g v p =>
    if p.length ≠ c.length then ignoreWith Reason.shape.alone
    else judgeHold r (judgePublication own c r f.source f.source g v)
  | .yield newOwner g v p =>
    if p.length ≠ c.length then ignoreWith Reason.shape.alone
    else if newOwner = own then judgeHold r (judgeYieldToSelf c r)
    else judgeHold r (judgePublication own c r f.source newOwner g v)
  | .pull => judgeHold r (judgePull r)
  | .claim _ _ => judgeHold r (judgeClaim c r)
  | .announce _ => ⟨.announce, .taken, 0, none⟩

/-- The used entry that holds a key (R1). -/
def findEntry (s : State) (key : Key) : Option EntryIx :=
  lowestEntry fun i => decide ((s.cfg i).role ≠ .unused) && decide ((s.cfg i).key = key)

/-- Whether the LIU drives its slot answer, no fault having been found in the frame (R30). -/
def answers (s : State) : Bool :=
  (decide (s.lifecycle = .online) || decide (s.lifecycle = .leaving)) && decide (s.fcu.standing ≠ .muted)

/-- The entry a frame concerns: none for an ANNOUNCE (R43, R45). -/
def entryFor (s : State) (f : Frame) : Option EntryIx :=
  match f.body with
  | .announce _ => none
  | .publish .. | .yield .. | .claim .. | .pull => findEntry s f.key

/-- The judgement on a frame (R43): ANNOUNCE (R45), unknown key (R44), else the entry's rule. -/
def judge (s : State) (f : Frame) : Judgement :=
  match f.body with
  | .announce _ => ⟨.announce, .taken, 0, none⟩
  | .publish .. | .yield .. | .claim .. | .pull =>
    match findEntry s f.key with
    | none => ignoreWith 0
    | some i => judgeEntry s.own (s.cfg i) (s.rt i) f

/-- The verdict record of a frame (R42). -/
def verdictOn (s : State) (f : Frame) : VerdictRecord :=
  let j := judge s f
  { entry := entryFor s f, verdict := j.verdict, answer := j.answer, reasons := j.reasons, effective := j.effective
    frame := f, driven := answers s }

/-! ### Verdicts applied at completion -/

/-- The generation, version and payload a frame carries; zero and empty for the kinds that carry none. -/
def FrameBody.content : FrameBody → Byte × Byte × List Byte
  | .publish g v p | .yield _ g v p => (g, v, p)
  | .claim .. | .pull | .announce _ => (0, 0, [])

/-- The claim kind of an entry that has become FRESH (R111). -/
def freshClaim (c : Option ClaimPart) : Option ClaimPart := c.map fun p => { p with kind := .normal }

/-- The freshness timer after an ACCEPT or REFRESH: started at a SUBSCRIBER that has a limit (R57). -/
def renewedFreshness (now : Time) (c : ItemConfig) (r : Runtime) : Timer :=
  if r.role = .subscriber then freshnessOf now c else none

/-- An accepted frame in the entry's runtime part (R53, R111, R96). -/
def acceptRuntime (now : Time) (c : ItemConfig) (source : Station) (b : FrameBody) (r : Runtime) : Runtime :=
  { r with
    storage := storeValue r.storage b.content.2.2, generation := b.content.1, version := b.content.2.1
    source := some ⟨source, now⟩, mirror := some .fresh, freshTimer := renewedFreshness now c r
    claim := freshClaim r.claim, pullWanted := false }

/-- ACCEPT at completion, at an entry still in a mirror role (R53, R56, R103). DESIGN CHOICE: the reasons fixed with the
verdict are posted whatever the mirror state is by then, so an ACCEPT fixed with UPDATED and CONFLICT and met by an
orphaning posts both, where R135 names UPDATED alone (log entry 31). -/
def applyAccept (s : State) (i : EntryIx) (source : Station) (b : FrameBody) (reasons : ReasonSet) : State :=
  if (s.rt i).role.isMirror then
    post (removePull (s.modRt i (acceptRuntime s.time (s.cfg i) source b)) i) i reasons
  else s

/-- A refreshing frame in the entry's runtime part (R54, R111, R96). DEDUCED: the source moves to the effective source,
as R52, R54 and R135 have it for a YIELD; R11 says of a refresh that it leaves the source unchanged, and section 1.8 gives
the refresh to the chapter of R54 (log entry 28). -/
def refreshRuntime (now : Time) (c : ItemConfig) (source : Station) (r : Runtime) : Runtime :=
  { r with
    source := some ⟨source, now⟩, mirror := some .fresh, freshTimer := renewedFreshness now c r
    claim := freshClaim r.claim, pullWanted := false }

/-- REFRESH at completion, by the mirror state as it stands then (R54, R56, R103). -/
def applyRefresh (s : State) (i : EntryIx) (source : Station) (b : FrameBody) : State :=
  if (s.rt i).role.isMirror then
    match (s.rt i).mirror with
    | some .fresh =>
      let moved := decide ((s.rt i).source.map (·.station) ≠ some source)
      post (removePull (s.modRt i (refreshRuntime s.time (s.cfg i) source)) i) i
        (if moved then Reason.updated.alone else 0)
    | some .stale =>
      post (removePull (s.modRt i (refreshRuntime s.time (s.cfg i) source)) i) i Reason.updated.alone
    | some .orphaned | some .empty | none => applyAccept s i source b Reason.updated.alone
  else s

/-- CEDE at completion: the claimant gets the item if this station answered it (R118). -/
def applyCede (s : State) (i : EntryIx) (v : VerdictRecord) : State :=
  if v.driven ∧ (s.rt i).role = .publisher then
    let t := enterYielding s i v.frame.source
    match v.frame.body with
    | .claim seen false => if newer (s.rt i).generation seen then post t i Reason.conflict.alone else t
    | _ => t
  else s

/-- ASSUME at completion: the item is taken over if this station answered (R123). -/
def applyAssume (s : State) (i : EntryIx) (v : VerdictRecord) : State :=
  if v.driven ∧ (s.rt i).role.isMirror then
    let c := v.frame.body.content
    enterPublisher s i c.1 c.2.1 (storeValue (s.rt i).storage c.2.2)
  else s

/-- DEPOSE at completion (R125). -/
def applyDepose (s : State) (i : EntryIx) (v : VerdictRecord) : State :=
  if (s.rt i).role = .publisher ∨ (s.rt i).role = .yielding then
    let c := v.frame.body.content
    post (enterMirror s i (v.effective.getD v.frame.source) c.1 c.2.1 (storeValue (s.rt i).storage c.2.2)) i v.reasons
  else s

/-- The verdict of a completed frame applied to its entry (R53 to R56, R107, R118, R123, R125 to R127). -/
def applyVerdict (s : State) (v : VerdictRecord) : State :=
  match v.entry with
  | none => s
  | some i =>
    match v.verdict with
    | .accept => applyAccept s i (v.effective.getD v.frame.source) v.frame.body v.reasons
    | .refresh => applyRefresh s i (v.effective.getD v.frame.source) v.frame.body
    | .ignore => post s i v.reasons
    | .defer | .announce => s
    | .serve => raisePublish s i
    | .cede => applyCede s i v
    | .assume => applyAssume s i v
    | .depose => applyDepose s i v
    | .reassert => raisePublish (post s i v.reasons) i
    | .outranked => post s i v.reasons

/-! ### The merge watch (R101) -/

/-- Whether some slot of a window holds TAKEN. -/
def someTaken (w : Window) : Bool := (List.finRange 32).any fun st => decide (w[st] = .taken)

/-- A record's PULL taken by an owner: phase SENT with its reply timer started, no PULL pending (R100, R101). -/
def pullTaken (s : State) (i : EntryIx) : State :=
  (modPull s i fun p =>
    { p with
      phase := .sent, onLine := false, mergeWatch := false
      replyTimer := startTimer s.time (durationParam s (·.pull) 3) }).modRt i fun r =>
    { r with pending := { r.pending with pull := false } }

/-- A record given up: removed with PULL-UNANSWERED (R100, R101, R102). -/
def pullUnanswered (s : State) (i : EntryIx) : State := post (removePull s i) i Reason.pullUnanswered.alone

/-- The window of a window's judgement for the record of entry `i` (R100, R101). -/
def judgePullWindow (s : State) (i : EntryIx) (w : Window) : State :=
  if someTaken w then pullTaken s i else pullUnanswered s i

/-- The completion of a received PULL for entry `i`: it ends the merge watch of the entry's record, and its window is
judged (R101). -/
def judgeMergeWatch (s : State) (i : EntryIx) (w : Window) : State :=
  match findPull s i with
  | some p => if p.mergeWatch then judgePullWindow s i w else s
  | none => s

/-- The merge watch after a completed frame, which the station received (R101). -/
def endMergeWatch (s : State) (v : VerdictRecord) (w : Window) : State :=
  match v.frame.body, v.entry with
  | .pull, some i => judgeMergeWatch s i w
  | _, _ => s

/-- The LIU has left a frame without completing it: a merge watch ends unjudged (R101). -/
def abandonMergeWatch (s : State) : State :=
  match s.pulls.find? fun p => p.mergeWatch with
  | none => s
  | some p =>
    if p.attempts < 3 then modPull s p.entry fun q => { q with mergeWatch := false } else pullUnanswered s p.entry

end Sys2Proof.Machine
end

