-- ==== Sys2Proof/Machine/Selector.lean ====
section
/-! DEFINITION. The Transmit Selector: eligibility, the offer, the capture, and the handling of each outcome by the
block that owns the request (chapters 4 to 7). -/

namespace Sys2Proof.Machine

/-! ### Eligibility, offer and capture (R71 to R73) -/

/-- Whether a station that is ONLINE may send (R71). -/
def maySend (s : State) : Bool := decide (s.lifecycle = .online) && decide (s.fcu.standing ≠ .muted)

/-- The eligible requests of entry `i`, each with its arbitration value (R71, R72). -/
def eligibleOf (s : State) (i : EntryIx) : List (Nat × Request) :=
  let r := s.rt i
  let c := s.cfg i
  (if r.pending.yield then [(arbitration c.cls c.key.toNat 0, .yield i)] else [])
    ++ (if r.pending.claim then [(arbitration c.cls c.key.toNat 1, .claim i)] else [])
    ++ (if r.pending.publish.isSome ∧ r.inhibitTimer.isNone then [(arbitration c.cls c.key.toNat 2, .publish i)] else [])
    ++ (if r.pending.pull then [(arbitration c.cls c.key.toNat 3, .pull i)] else [])

/-- Whether an announce request of this type is eligible (R71). -/
def announceEligible (s : State) (t : AnnounceType) : Bool :=
  decide (s.fcu.standing ≠ .muted) &&
    (match t with
    | .join | .present => decide (s.lifecycle = .online)
    | .leave => decide (s.lifecycle = .leaving))

/-- Every eligible request with its arbitration value. -/
def eligible (s : State) : List (Nat × Request) :=
  (match s.announce with
    | some a =>
      if announceEligible s a.type then [(arbitration .system s.own.val 4, Request.announce a.type)] else []
    | none => [])
    ++ (if maySend s then (List.finRange 128).flatMap (eligibleOf s) else [])

/-- The first of two candidates unless the second has a lower arbitration value. -/
def lowerOf (best : Option (Nat × Request)) (x : Nat × Request) : Option (Nat × Request) :=
  match best with
  | none => some x
  | some b => if x.1 < b.1 then some x else some b

/-- The offer: the eligible request with the lowest arbitration value, judged afresh at each moment up to the start
bit (R71, R72). -/
def offer (s : State) : Option Request := ((eligible s).foldl lowerOf none).map (·.2)

/-- The content captured for a request (R73). -/
def contentOf (s : State) : Request → Frame
  | .publish i =>
    ⟨(s.cfg i).cls, (s.cfg i).key, s.own, .publish (s.rt i).generation (s.rt i).version (valueOf (s.cfg i) (s.rt i))⟩
  | .yield i =>
    ⟨(s.cfg i).cls, (s.cfg i).key, s.own,
      .yield (((s.rt i).yield.map (·.target)).getD 0) (s.rt i).generation (s.rt i).version
        (valueOf (s.cfg i) (s.rt i))⟩
  | .claim i =>
    ⟨(s.cfg i).cls, (s.cfg i).key, s.own,
      .claim (s.rt i).generation (decide ((s.rt i).claim.map (·.kind) = some .adopt))⟩
  | .pull i => ⟨(s.cfg i).cls, (s.cfg i).key, s.own, .pull⟩
  | .announce t => ⟨.system, BitVec.ofNat 12 s.own.val, s.own, .announce t⟩

/-- The attempt count a request takes into flight; 0 for the kinds that carry none (R64). -/
def attemptsOf (s : State) : Request → Nat
  | .publish i => ((s.rt i).pending.publish).getD 0
  | .announce _ => (s.announce.map (·.attempts)).getD 0
  | .pull _ | .claim _ | .yield _ => 0

/-- The request leaves its pending set, and the block that raised a PULL or a CLAIM marks the frame as its own
(R73, R99, R113). -/
def leaveSet (s : State) : Request → State
  | .publish i => s.modRt i fun r => { r with pending := { r.pending with publish := none } }
  | .pull i =>
    modPull (s.modRt i fun r => { r with pending := { r.pending with pull := false } }) i fun p =>
      { p with onLine := true }
  | .claim i =>
    s.modRt i fun r =>
      { r with pending := { r.pending with claim := false }, claim := r.claim.map fun c => { c with frameMark := true } }
  | .yield i => s.modRt i fun r => { r with pending := { r.pending with yield := false } }
  | .announce _ => { s with announce := none }

/-- The capture of the offered request at the start bit (R73). -/
def capture (s : State) (q : Request) : State :=
  { leaveSet s q with inFlight := some ⟨q, attemptsOf s q, contentOf s q, false⟩ }

/-! ### PUBLISH outcomes (R75 to R77, R84 to R87) -/

/-- Whether an outcome counts as a line attempt (R38). -/
def TxOutcome.isAttempt : TxOutcome → Bool
  | .completed | .unheard | .destroyed => true
  | .outbid | .collided => false

/-- The attempt count of a kept request after an outcome (R75). -/
def countAfter (n : Nat) (o : TxOutcome) : Nat := if o.isAttempt then n + 1 else n

/-- A kept PUBLISH returns to its set, unless a PUBLISH raised during its flight is there or the role no longer allows
it (R75). -/
def returnPublish (s : State) (i : EntryIx) (n : Nat) : State :=
  s.modRt i fun r =>
    if r.role = .publisher then { r with pending := { r.pending with publish := some (r.pending.publish.getD n) } } else r

/-- One required receiver's slot in the accounting of R86. -/
def accountSlot (w : Window) (d : Delivery) (st : Station) : Delivery :=
  match w[st] with
  | .taken => { d with receipts := d.receipts ||| onlyStation st, refused := d.refused &&& ~~~ onlyStation st }
  | .seen => if inSet d.receipts st then d else { d with refused := d.refused ||| onlyStation st }
  | .busy | .absent => d

/-- The slots of the required receivers read into the record (R86). -/
def accountWindow (required : StationSet) (d : Delivery) (w : Window) : Delivery :=
  ((List.finRange 32).filter (inSet required)).foldl (accountSlot w) d

/-- The accounting of a governed outcome (R85, R86). -/
def account (c : ItemConfig) (d : Delivery) (o : TxOutcome) (w : Option Window) : Delivery :=
  let d := { d with attempts := countAfter d.attempts o }
  match o, w with
  | .completed, some w => accountWindow c.required d w
  | _, _ => d

/-- Whether every required receiver has answered (R87). -/
def allAnswered (c : ItemConfig) (d : Delivery) : Bool := decide (d.receipts ||| d.refused = c.required)

/-- The state in which a record closes after the accounting, if it does; the third case needs an outcome that counted
(R87). -/
def closing (c : ItemConfig) (d : Delivery) (o : TxOutcome) : Option DeliveryState :=
  if o.isAttempt then
    if allAnswered c d ∧ d.refused = 0 then some .delivered
    else if allAnswered c d then some .undelivered
    else if d.attempts = c.attemptLimit then some .undelivered
    else none
  else none

/-- The reason a closing record posts (R87). -/
def closingReason : DeliveryState → Reason
  | .delivered => .delivered
  | .undelivered | .opened => .undelivered

/-- A governed outcome: accounted, then closed or kept (R87). -/
def governedPublish (s : State) (i : EntryIx) (d : Delivery) (n : Nat) (o : TxOutcome) (w : Option Window) : State :=
  let d' := account (s.cfg i) d o w
  match closing (s.cfg i) d' o with
  | some st => post (s.modRt i fun r => { r with delivery := some { d' with state := st } }) i (closingReason st).alone
  | none => returnPublish (s.modRt i fun r => { r with delivery := some d' }) i (countAfter n o)

/-- An unconfirmed outcome (R77). -/
def unconfirmedPublish (s : State) (i : EntryIx) (n : Nat) (o : TxOutcome) : State :=
  match o with
  | .completed => s
  | .outbid | .collided => returnPublish s i n
  | .unheard | .destroyed =>
    if n + 1 < 16 then returnPublish s i (n + 1)
    else if (s.rt i).role = .publisher ∧ (s.rt i).pending.publish.isNone then post s i Reason.sendFailed.alone
    else s

/-- The delivery an outcome is governed by, if any (R76, R84). -/
def governing (r : Runtime) (captured : Byte) : Option Delivery :=
  match r.delivery with
  | some d => if d.state = .opened ∧ d.version = captured then some d else none
  | none => none

/-- The inhibit timer starts after an attempt, at an entry that is PUBLISHER and has an inhibit (R70). -/
def startInhibit (s : State) (i : EntryIx) (o : TxOutcome) : State :=
  s.modRt i fun r =>
    if o.isAttempt ∧ (s.cfg i).inhibit ≠ 0 ∧ r.role = .publisher then
      { r with inhibitTimer := startTimer s.time (s.cfg i).inhibit }
    else r

/-- The outcome of a PUBLISH of entry `i` (R70, R76). -/
def publishOutcome (s : State) (i : EntryIx) (n : Nat) (captured : Byte) (o : TxOutcome) (w : Option Window) : State :=
  let s := startInhibit s i o
  match governing (s.rt i) captured with
  | some d => governedPublish s i d n o w
  | none => unconfirmedPublish s i n o

/-! ### ANNOUNCE outcomes (R78, R79) -/

/-- A returning announce request meets what was raised during its flight (R66, R75). -/
def returnAnnounce (s : State) (t : AnnounceType) (n : Nat) : State :=
  { s with announce := combineAnnounce s.announce ⟨t, n⟩ }

/-- The outcome of an ANNOUNCE: its state, and whether Station Control is told that the leave is over. -/
def announceOutcome (s : State) (t : AnnounceType) (n : Nat) (o : TxOutcome) : State × Bool :=
  match t with
  | .join | .present =>
    match o with
    | .completed => (s, false)
    | .unheard | .destroyed => (if n + 1 < 16 then returnAnnounce s t (n + 1) else s, false)
    | .outbid | .collided => (returnAnnounce s t n, false)
  | .leave =>
    match o with
    | .completed | .unheard => (s, true)
    | .destroyed => if n + 1 < 4 then (returnAnnounce s t (n + 1), false) else (s, true)
    | .outbid | .collided => (returnAnnounce s t n, false)

/-! ### PULL outcomes (R99 to R101) -/

/-- The record of entry `i` stays WAITING with its PULL returned to the set (R99, R100). -/
def keepPull (s : State) (i : EntryIx) (f : PullRecord → PullRecord) : State := raisePull (modPull s i f) i

/-- The outcome of a PULL of entry `i`, taken for the record that carries the on-the-line mark (R99, R100, R101). -/
def pullOutcome (s : State) (i : EntryIx) (o : TxOutcome) (w : Option Window) : State :=
  match findPull s i with
  | none => s
  | some p =>
    if p.onLine then
      match o with
      | .completed =>
        judgePullWindow (modPull s i fun q => { q with attempts := q.attempts + 1, onLine := false }) i
          (w.getD (Vector.replicate 32 .absent))
      | .unheard => pullUnanswered s i
      | .destroyed =>
        if p.attempts + 1 < 3 then keepPull s i fun q => { q with attempts := q.attempts + 1, onLine := false }
        else pullUnanswered s i
      | .outbid => keepPull s i fun q => { q with onLine := false }
      | .collided => keepPull s i fun q => { q with attempts := q.attempts + 1, onLine := false, mergeWatch := true }
    else s

/-! ### CLAIM outcomes (R113 to R116) -/

/-- A kept CLAIM returns to its set. -/
def keepClaim (s : State) (i : EntryIx) : State :=
  s.modRt i fun r => { r with pending := { r.pending with claim := true } }

/-- Whether a slot other than that of `own` holds TAKEN (R114). -/
def takenBesides (own : Station) (w : Window) : Bool :=
  (List.finRange 32).any fun st => decide (st ≠ own) && decide (w[st] = .taken)

/-- A COMPLETED CLAIM (R114). -/
def claimCompleted (s : State) (i : EntryIx) (k : ClaimKind) (w : Window) : State :=
  if takenBesides s.own w then s
  else
    match k with
    | .adopt => adopt s i
    | .normal =>
      match (s.rt i).source with
      | some o => if w[o.station] = .seen then endClaim s i .claimRefused else keepClaim s i
      | none => keepClaim s i

/-- The outcome of a CLAIM of entry `i`, taken if the entry is CLAIMING and its claim frame mark is set (R113 to
R115). -/
def claimOutcome (s : State) (i : EntryIx) (o : TxOutcome) (w : Option Window) : State :=
  match (s.rt i).claim with
  | none => s
  | some c =>
    if (s.rt i).role = .claiming ∧ c.frameMark then
      let s := s.modRt i fun r => { r with claim := some { c with frameMark := false } }
      match o with
      | .completed => claimCompleted s i c.kind (w.getD (Vector.replicate 32 .absent))
      | .unheard =>
        match c.kind with
        | .normal => keepClaim s i
        | .adopt => adopt s i
      | .destroyed | .outbid => keepClaim s i
      | .collided => endClaim s i .claimLost
    else s

/-! ### YIELD outcomes (R119 to R121) -/

/-- A kept YIELD returns to its set with the yield attempt count `n`. -/
def keepYield (s : State) (i : EntryIx) (n : Nat) : State :=
  s.modRt i fun r =>
    { r with pending := { r.pending with yield := true }, yield := r.yield.map fun y => { y with attempts := n } }

/-- A yield that has not been taken: kept below 8 attempts, failed at 8 (R119). -/
def retryYield (s : State) (i : EntryIx) (n : Nat) : State := if n < 8 then keepYield s i n else failYield s i

/-- The yield completes (R120). -/
def completeYield (s : State) (i : EntryIx) (target : Station) : State :=
  post (enterMirror s i target (s.rt i).generation (s.rt i).version (s.rt i).storage) i Reason.ownerLost.alone

/-- The outcome of a YIELD of entry `i`, taken if the entry is YIELDING (R119). -/
def yieldOutcome (s : State) (i : EntryIx) (o : TxOutcome) (w : Option Window) : State :=
  match (s.rt i).yield with
  | none => s
  | some y =>
    if (s.rt i).role = .yielding then
      let n := countAfter y.attempts o
      match o with
      | .completed =>
        match (w.getD (Vector.replicate 32 .absent))[y.target] with
        | .taken => completeYield s i y.target
        | .seen => failYield s i
        | .busy | .absent => retryYield s i n
      | .unheard | .destroyed => retryYield s i n
      | .outbid | .collided => keepYield s i n
    else s

/-! ### The outcome of the frame in flight (R75) -/

/-- The outcome handed to the block that owns the request; the second part says that the leave is over (R75, R79). -/
def ownerOutcome (s : State) (fl : InFlight) (o : TxOutcome) (w : Option Window) : State × Bool :=
  match fl.request with
  | .publish i => (publishOutcome s i fl.attempts fl.content.body.content.2.1 o w, false)
  | .pull i => (pullOutcome s i o w, false)
  | .claim i => (claimOutcome s i o w, false)
  | .yield i => (yieldOutcome s i o w, false)
  | .announce t => announceOutcome s t fl.attempts o

/-- The frame's outcome as the FCU takes it: a NO-RECEIPT is reported with UNHEARD (R34, R143, R145). -/
def fcuOutcome (s : State) (o : TxOutcome) : State :=
  scoreOutcome (if o = .unheard then noteFault s .noReceipt else s) o

/-- The window of an own frame as presence evidence, and the announce timer started again by a COMPLETED frame
(R131, R137). -/
def outcomeEvidence (s : State) (o : TxOutcome) (w : Option Window) : State :=
  match o, w with
  | .completed, some w => restartAnnounceTimer (takeEvidence s none w)
  | .unheard, some w => takeEvidence s none w
  | _, _ => s

/-- Station Control after an outcome: the leave is over, or the station is MUTED in LEAVING (R148, R164). -/
def afterOutcome (s : State) (leaveOver : Bool) : State :=
  if leaveOver ∧ s.lifecycle = .leaving then halt s else reportStanding s

/-- The outcome of the frame in flight handled by every block it goes to: FCU, SR, the owning block, then SC
(R75, R79; log entry 9). -/
def handleOutcome (s : State) (fl : InFlight) (o : TxOutcome) (w : Option Window) : State :=
  let p := ownerOutcome (outcomeEvidence (fcuOutcome { s with inFlight := none } o) o w) fl o w
  afterOutcome p.1 p.2

end Sys2Proof.Machine
end

