-- ==== Sys2Proof/Machine/PortCommands.lean ====
section
/-! DEFINITION. The reading commands and the commands on one entry, as taken at the release of chip-select (chapter 12),
and the transactions that name no command. -/

namespace Sys2Proof.Machine

/-- Whether the lifecycle takes WRITE, PULL and CLAIM (R165's table). -/
def takesRequests (l : Lifecycle) : Bool := decide (l = .joining) || decide (l = .online) || decide (l = .leaving)

/-- A command that is refused with `st`: nothing changes but the reply (R180). -/
def refuse (s : State) (ops : List Byte) (st : Status) : State := withReply s ops s (statusOnly st)

/-- A command on one entry: the checks of R180 on its entry operand, then `run` on the entry. -/
def onEntry (s : State) (ops : List Byte) (run : EntryIx → State) : State :=
  match entryOperand s ops with
  | .error st => refuse s ops st
  | .ok i => run i

/-- NOP: the reply in the buffer is shifted out and stays there (R182). -/
def execNop (ops : List Byte) (s : State) : Host.Outcome State Fault Refusal :=
  done { s with shiftedOut := shiftOut s.reply (ops.length + 1) }

/-- STATUS: the reply, and the station notice set emptied (R186, R176). -/
def execStatus (ops : List Byte) (s : State) : Host.Outcome State Fault Refusal :=
  done (withReply s ops { s with flags := 0 } (statusReply s))

/-- NEXT-NOTICE: the head record removed, the queue refilled, and the reply with the entry's snapshot, or EMPTY
(R172, R173). -/
def execNextNotice (ops : List Byte) (s : State) : Host.Outcome State Fault Refusal :=
  match s.notices with
  | [] => done (refuse s ops .empty)
  | n :: rest =>
    let t := refillNotices { s with notices := rest }
    done (withReply s ops t (noticeReply n (t.rt n.entry) t.notices.length))

/-- READ (R185). -/
def execRead (ops : List Byte) (s : State) : Host.Outcome State Fault Refusal :=
  done (onEntry s ops fun i => withReply s ops s (readReply s.time (s.cfg i) (s.rt i)))

/-- READ-DELIVERY (R94). -/
def execReadDelivery (ops : List Byte) (s : State) : Host.Outcome State Fault Refusal :=
  done (onEntry s ops fun i => withReply s ops s (deliveryReply (s.cfg i) (s.rt i).delivery))

/-- READ-ROSTER (R140). -/
def execReadRoster (ops : List Byte) (s : State) : Host.Outcome State Fault Refusal :=
  done (withReply s ops s (rosterReply s))

/-- The runtime part of an entry after an accepted WRITE of `value` (R67, R83). -/
def writeRuntime (c : ItemConfig) (value : List Byte) (r : Runtime) : Runtime :=
  { r with
    storage := storeValue r.storage value, version := r.version + 1
    pending := if c.onWrite ∨ c.required ≠ 0 then { r.pending with publish := some 0 } else r.pending
    delivery := if c.required ≠ 0 then some ⟨.opened, r.version + 1, 0, 0, 0⟩ else r.delivery }

/-- WRITE (R67, R68, R83). -/
def execWrite (ops : List Byte) (s : State) : Host.Outcome State Fault Refusal :=
  done (onEntry s ops fun i =>
    if ops.length < 1 + (s.cfg i).length then refuse s ops .badLength
    else if (s.rt i).role = .publisher ∧ takesRequests s.lifecycle then
      withReply s ops (s.modRt i (writeRuntime (s.cfg i) ((ops.drop 1).take (s.cfg i).length)))
        [Status.ok.code, (s.rt i).version + 1]
    else refuse s ops .badState)

/-- The hold limit, or where no station parameters are set a free value from 1 to 65535, with the state that has drawn
it (R60, R156; log entry 3). -/
def holdLimit (s : State) : Nat × State :=
  match s.params with
  | some p => (p.hold, s)
  | none => ((Config.unsetHoldLimit s.draws).val + 1, { s with draws := s.draws + 1 })

/-- HOLD (R60). -/
def execHold (ops : List Byte) (s : State) : Host.Outcome State Fault Refusal :=
  done (onEntry s ops fun i =>
    if (s.rt i).role.isMirror ∧ s.lifecycle ≠ .halted then
      let (limit, t) := holdLimit s
      withReply s ops (t.modRt i fun r => { r with held := true, holdTimer := startTimer s.time limit })
        (statusOnly .ok)
    else refuse s ops .badState)

/-- RELEASE (R61). -/
def execRelease (ops : List Byte) (s : State) : Host.Outcome State Fault Refusal :=
  done (onEntry s ops fun i =>
    if (s.rt i).role.isMirror ∧ s.lifecycle ≠ .halted then
      withReply s ops (s.modRt i fun r => if r.held then { r with held := false, holdTimer := none } else r)
        (statusOnly .ok)
    else refuse s ops .badState)

/-- PULL (R97). -/
def execPull (ops : List Byte) (s : State) : Host.Outcome State Fault Refusal :=
  done (onEntry s ops fun i =>
    if (s.rt i).role = .subscriber ∧ takesRequests s.lifecycle then
      if (findPull s i).isSome then withReply s ops s (statusOnly .ok)
      else if s.pulls.length < 8 then withReply s ops (addPull s i) (statusOnly .ok)
      else refuse s ops .busyTable
    else refuse s ops .badState)

/-- The claim kind a mirror state calls for (R110). -/
def claimKindOf (m : Option MirrorState) : ClaimKind :=
  match m with
  | some .fresh | some .stale => .normal
  | some .empty | some .orphaned | none => .adopt

/-- A SUBSCRIBER entry takes a claim: it enters CLAIMING (R18, R110). -/
def takeClaim (s : State) (i : EntryIx) : State :=
  (removePull s i).modRt i fun r =>
    { r with
      role := .claiming, claim := some ⟨claimKindOf r.mirror, false⟩
      claimTimer := startTimer s.time (durationParam s (·.claim) 2), freshTimer := none, pullWanted := false
      pending := { r.pending with claim := true } }

/-- CLAIM (R110). -/
def execClaim (ops : List Byte) (s : State) : Host.Outcome State Fault Refusal :=
  done (onEntry s ops fun i =>
    if (s.cfg i).movable ∧ (s.rt i).role = .subscriber ∧ (s.rt i).held = false ∧ takesRequests s.lifecycle then
      withReply s ops (takeClaim s i) (statusOnly .ok)
    else refuse s ops .badState)

/-- A command code that is not in the table (R180). -/
def execUnknownCommandCode (_code : Byte) (ops : List Byte) (s : State) : Host.Outcome State Fault Refusal :=
  done (refuse s ops .badCommand)

/-- A transaction without a whole byte executes nothing, and nothing is shifted out (R178). -/
def execEmptyTransaction (s : State) : Host.Outcome State Fault Refusal := done { s with shiftedOut := [] }

end Sys2Proof.Machine
end

