-- ==== Sys2Proof/Machine/StationCommands.lean ====
section
/-! DEFINITION. The commands of Station Control: configuration, START, STOP, REJOIN, RESTART, and full reset
(chapter 10). -/

namespace Sys2Proof.Machine

/-- SET-STATION (R157, R187). -/
def execSetStation (ops : List Byte) (s : State) : Host.Outcome State Fault Refusal :=
  if ops.length < 11 then done (refuse s ops .badLength)
  else if s.lifecycle ≠ .configuring then done (refuse s ops .badState)
  else
    match stationOperands ops with
    | none => done (refuse s ops .badArg)
    | some p => done (withReply s ops { s with params := some p } (statusOnly .ok))

/-- Whether a used entry other than `i` holds the key of `c` (R1, R158). -/
def keyTaken (s : State) (i : EntryIx) (c : ItemConfig) : Bool :=
  decide (c.role ≠ .unused) && (List.finRange 128).any fun j =>
    decide (j ≠ i) && decide ((s.cfg j).role ≠ .unused) && decide ((s.cfg j).key = c.key)

/-- The configuration `c` stored in entry `i`: its runtime part at reset values, its notice record removed and the
queue refilled (R6, R19, R172). -/
def storeItem (s : State) (i : EntryIx) (c : ItemConfig) : State :=
  removeNotice (s.setEntry i ⟨c, resetRuntime c⟩) i

/-- SET-ITEM (R158, R188). -/
def execSetItem (ops : List Byte) (s : State) : Host.Outcome State Fault Refusal :=
  match ops with
  | [] => done (refuse s ops .badLength)
  | b :: _ =>
    if h : b.toNat < 128 then
      if ops.length < itemBytesNeeded ops then done (refuse s ops .badLength)
      else if s.lifecycle ≠ .configuring then done (refuse s ops .badState)
      else
        match itemOperands ops with
        | none => done (refuse s ops .badArg)
        | some c =>
          if keyTaken s ⟨b.toNat, h⟩ c then done (refuse s ops .badArg)
          else done (withReply s ops (storeItem s ⟨b.toNat, h⟩ c) (itemReply ⟨b.toNat, h⟩ c))
    else done (refuse s ops .badItem)

/-- Whether an entry needs publish modes it does not have (R159, check 3). -/
def lacksModes (c : ItemConfig) : Bool :=
  (decide (c.role = .publisher) || c.movable) && !c.onWrite && !c.periodic

/-- The first check of START that fails (R159). -/
def configFailure (s : State) : Option ConfigFailure :=
  match s.params with
  | none => some .stationUnset
  | some p =>
    if p.window < 3 * p.announce then some .windowShort
    else
      (lowestEntry fun i => lacksModes (s.cfg i) || inSet (s.cfg i).required p.station).map fun i =>
        if lacksModes (s.cfg i) then .noModes i else .ownReceiver i

/-- The start, every check passed (R160). -/
def startStation (s : State) : State :=
  let s := s.mapRt fun _ c _ => resetRuntime c
  let s := s.mapRoster fun _ _ => .cleared
  { s with
    announce := none, inFlight := none, verdict := none, pulls := [], announceTimer := none, notices := []
    fcu := { s.fcu with score := 0, standing := .good, cleanCount := 0 }
    lifecycle := .joining, liu := { Liu.off with phase := .listening } }

/-- START (R159, R160, R189). -/
def execStart (ops : List Byte) (s : State) : Host.Outcome State Fault Refusal :=
  if s.lifecycle ≠ .configuring then done (refuse s ops .badState)
  else
    match configFailure s with
    | some e => done (withReply s ops s e.reply)
    | none => done (withReply s ops (startStation s) (statusOnly .ok))

/-- Entry to LEAVING (R163). -/
def enterLeaving (s : State) : State :=
  let s := s.mapRt fun _ _ r => { r with periodTimer := none }
  raiseAnnounce { s with lifecycle := .leaving, announceTimer := none } .leave

/-- STOP (R163). -/
def execStop (ops : List Byte) (s : State) : Host.Outcome State Fault Refusal :=
  if s.lifecycle ≠ .online then done (refuse s ops .badState)
  else if s.fcu.standing = .muted then done (withReply s ops (halt s) (statusOnly .ok))
  else done (withReply s ops (enterLeaving s) (statusOnly .ok))

/-- REJOIN (R152). -/
def execRejoin (ops : List Byte) (s : State) : Host.Outcome State Fault Refusal :=
  if s.lifecycle = .online ∧ s.fcu.standing = .muted then done (withReply s ops (leaveMuted s 119) (statusOnly .ok))
  else done (refuse s ops .badState)

/-- The runtime state cleared: what RESTART and full reset have in common (R166). -/
def clearRuntime (s : State) : State :=
  let s := s.mapRt fun _ c _ => resetRuntime c
  let s := s.mapRoster fun _ _ => .cleared
  { s with
    announce := none, inFlight := none, verdict := none, pulls := [], announceTimer := none, notices := []
    flags := 0, fcu := .cleared, lifecycle := .configuring, liu := .off }

/-- RESTART (R166). -/
def execRestart (ops : List Byte) (s : State) : Host.Outcome State Fault Refusal :=
  done (withReply s ops (clearRuntime s) (statusOnly .ok))

/-- Full reset: power-up, or the RESET pin asserted and released. The waiting commands and the count of free values
are the model's own and stay (R167). -/
def execFullReset (s : State) : Host.Outcome State Fault Refusal :=
  done { State.reset with draws := s.draws, pending := s.pending }

end Sys2Proof.Machine
end

