-- ==== Sys2Proof/Machine/LineHappenings.lean ====
section
/-! DEFINITION. What happens on the line: the gap, the join quiet, start bits, verdict points, completions, outcomes,
faults, recovery and duplicate sightings (chapter 2), and what the station drives. A happening that the station's state
and the levels sampled do not bear out does not take place, and leaves the state as it is (log entry 7); levels that lead
up to a happening without bringing it are sampled, and move the phase (R39; log entry 21). -/

namespace Sys2Proof.Machine

/-- The gap that applies to the station (R25). -/
def applicableGap (s : State) : Nat :=
  match s.fcu.standing with
  | .good => 4
  | .cautious | .muted => 16

/-- `n` further recessive bit times between frames (R25, R40). -/
def countGap (s : State) (n : Nat) : State :=
  if s.liu.phase = .resting ∨ s.liu.phase = .listening then { s with liu := { s.liu with gap := s.liu.gap + n } } else s

/-- LINE_FREE: the gap count reaches the applicable gap in RESTING, and the line is free (R25). -/
def execLineFree (n : Nat) (s : State) : Host.Outcome State Fault Refusal :=
  let s := countGap s n
  if s.liu.phase = .resting ∧ applicableGap s ≤ s.liu.gap then done { s with liu := { s.liu with phase := .idle } }
  else done s

/-- START_BIT_CAPTURE: in IDLE with a frame offered, the LIU enters SENDING and the TS captures the offer (R25, R73). -/
def execStartBitCapture (s : State) : Host.Outcome State Fault Refusal :=
  if s.liu.phase = .idle ∧ s.inFlight = none then
    match offer s with
    | none => done s
    | some q =>
      done { capture s q with liu := { s.liu with
        phase := .sending, sampled := [], contention := .sending, fault := none, window := none, markBits := 0 } }
  else done s

/-- Whether the station is sending a frame: in SENDING, or in WINDOW or ENDING with its contention not lost (R39). -/
def sends (s : State) : Bool :=
  decide (s.liu.contention = .sending)
    && (decide (s.liu.phase = .sending) || decide (s.liu.phase = .window) || decide (s.liu.phase = .ending))

/-- `levels` more of the frame sampled with nothing brought about, the LIU being in `phase` after them (R39, R40). -/
def sampleOn (s : State) (levels : List Level) (phase : LiuPhase) : State :=
  let t := countJoinQuiet s levels
  { t with liu := { t.liu with phase := phase, sampled := s.liu.sampled ++ levels } }

/-- The level driven in the slot that the next bit time falls in: the answer of a verdict to be driven, in the own slot
(R30, R31). -/
def slotDrive (own : Station) (v : VerdictRecord) (sampled : List Level) : Level :=
  let place := sampled.length - v.frame.levels.length
  if v.driven ∧ place / 2 = own.val then v.answer.levels.getD (place % 2) true else true

/-- The level the station gives the line in the next bit time: the Drives column of R39, under the law of R40. A station
that drives nothing leaves the line recessive (section 2.1). The start bit of an offered frame is driven on leaving IDLE,
and is the first bit of SENDING (R25). -/
def State.drives (s : State) : Level :=
  if answers s then
    match s.liu.phase with
    | .idle => !((offer s).isSome && s.inFlight.isNone)
    | .sending =>
      match s.inFlight with
      | some fl => fl.content.levels.getD s.liu.sampled.length true
      | none => true
    | .window =>
      match s.verdict with
      | some v => if sends s then true else slotDrive s.own v s.liu.sampled
      | none => true
    | .aborting => false
    | .off | .listening | .resting | .receiving | .ending | .recovering => true
  else true

/-- START_BIT_OF_ANOTHER_STATION: a dominant bit between frames (R25, R40). -/
def execStartBitOfAnotherStation (s : State) : Host.Outcome State Fault Refusal :=
  if s.liu.phase = .resting ∨ s.liu.phase = .idle ∨ s.liu.phase = .listening then
    done { s with liu := {
      phase := .receiving, sampled := [false], contention := .none, fault := none, window := none, markBits := 0
      recovery := 0, joinQuiet := 0, gap := 0 } }
  else done s

/-- FRAME_VERDICT_POINT: the last check bit of a received frame, no fault found in it (R29, R30, R42); levels that do
not reach it are sampled in RECEIVING (R39). -/
def execFrameVerdictPoint (levels : List Level) (s : State) : Host.Outcome State Fault Refusal :=
  if s.liu.phase = .receiving ∧ s.liu.fault = none then
    let r := rxOn s.liu.sampled levels
    match r.frame with
    | some f =>
      if f.source = s.own then done s
      else done { sampleOn s levels .window with verdict := some (verdictOn s f) }
    | none =>
      if r.fault = none ∧ r.spanDone = false ∧ sourceIsOwn s.own (s.liu.sampled ++ levels) = false then
        done (sampleOn s levels .receiving)
      else done s
  else done s

/-- Presence evidence of a completed frame, or what its announce says (R131, R133). -/
def completionEvidence (s : State) (f : Frame) (w : Window) : State :=
  match f.body with
  | .announce t => hearAnnounce s f.source t w
  | .publish .. | .yield .. | .claim .. | .pull => takeEvidence s (some f.source) w

/-- The own announce timer after a completed frame: started again if the station answered in it (R137). -/
def afterAnswer (s : State) (driven : Bool) : State := if driven then restartAnnounceTimer s else s

/-- Station Control on a completion: in JOINING the station goes ONLINE (R161). -/
def afterCompletion (s : State) : State := if s.lifecycle = .joining then enterOnline s else s

/-- A completed frame presented to the blocks: AU's verdict to IT, OU and PU, evidence to SR, the completion to FCU
and to SC (R33; log entry 8). -/
def presentCompletion (s : State) (v : VerdictRecord) (w : Window) : State :=
  let s := applyVerdict { s with verdict := none } v
  let s := endMergeWatch s v w
  let s := completionEvidence s v.frame w
  let s := scoreCompletion s
  afterCompletion (afterAnswer s v.driven)

/-- RECEIVED_FRAME_COMPLETION: a received frame ends with a clean end field (R33); levels that do not reach the end of it
are sampled in WINDOW and ENDING (R39). -/
def execReceivedFrameCompletion (levels : List Level) (s : State) : Host.Outcome State Fault Refusal :=
  if (s.liu.phase = .window ∨ s.liu.phase = .ending) ∧ s.liu.contention ≠ .sending ∧ s.liu.fault = none then
    match s.verdict with
    | none => done s
    | some v =>
      let r := rxOn s.liu.sampled levels
      match r.window with
      | some w =>
        if levels.isEmpty ∨ (rxOn s.liu.sampled levels.dropLast).over = false then
          done (presentCompletion (betweenFrames (countJoinQuiet s levels) (some w)) v w)
        else done s
      | none =>
        if r.fault = none then done (sampleOn s levels (phaseAt (s.liu.sampled ++ levels))) else done s
  else done s

/-- JOIN_QUIET: the join-quiet count reaches 200 bit times in JOINING, and the station goes ONLINE (R40, R161). -/
def execJoinQuiet (n : Nat) (s : State) : Host.Outcome State Fault Refusal :=
  if s.lifecycle = .joining ∧ s.liu.phase = .listening then
    let t := countGap s n
    let t := { t with liu := { t.liu with joinQuiet := t.liu.joinQuiet + n } }
    if 200 ≤ t.liu.joinQuiet then done (enterOnline t) else done t
  else done s

/-- The LIU when the outcome of its own frame is decided: on a loss of contention it goes on as a receiver, at the end
field it is between frames (R26, R27, R38). -/
def liuAfterOutcome (s : State) (levels : List Level) (o : TxOutcome) (w : Option Window) : State :=
  match o with
  | .outbid =>
    { s with liu := { s.liu with
      phase := .receiving, sampled := s.liu.sampled ++ levels, contention := .lostHeader } }
  | .collided =>
    { s with liu := { s.liu with
      phase := .receiving, sampled := s.liu.sampled ++ levels, contention := .lostSource } }
  | .completed | .unheard | .destroyed => betweenFrames s w

/-- OWN_FRAME_OUTCOME: the outcome of the frame in flight; with none in flight it is dropped (R38, R75, R139). Levels that
decide nothing are sampled in SENDING, WINDOW and ENDING (R39). -/
def execOwnFrameOutcome (levels : List Level) (s : State) : Host.Outcome State Fault Refusal :=
  match s.inFlight with
  | none => done s
  | some fl =>
    if fl.destroyed then
      if levels.isEmpty then done (handleOutcome s fl .destroyed none) else done s
    else if sends s then
      match outcomeOf fl.content (s.liu.sampled ++ levels) with
      | some (o, w) => done (handleOutcome (liuAfterOutcome s levels o w) fl o w)
      | none =>
        if txScan fl.content (s.liu.sampled ++ levels) = .ongoing then
          done (sampleOn s levels (txPhaseAt fl.content (s.liu.sampled ++ levels)))
        else done s
    else done s

/-- Whether the station sends an abort mark on a fault: GOOD and not receive-only, and no mark for a SLOT fault
(R32, R35). -/
def sendsMark (s : State) (k : FaultKind) : Bool :=
  decide (s.fcu.standing = .good) && !receiveOnly s && decide (k ≠ .slot)

/-- The LIU on a fault found at the last of `sampled`: a mark, begun at the next bit or for a CHECK fault at the end
field, or the frame followed silently while its length is known, or recovery (R35, R37). -/
def liuOnFault (s : State) (sampled : List Level) (k : FaultKind) : State :=
  let phase :=
    if sendsMark s k then (if k = .check then .window else .aborting)
    else if lengthKnown sampled then phaseAt sampled else .recovering
  { s with liu := { s.liu with
    phase := phase, sampled := sampled, contention := .none, fault := some k
    markBits := if sendsMark s k then (if k = .check then 72 else 8) else 0
    recovery := 0 } }

/-- A fault the sender finds: the frame is destroyed, its kind is reported, and its outcome is still to come
(R34, R145). -/
def senderFault (s : State) (fl : InFlight) (levels : List Level) (k : FaultKind) : State :=
  noteFault { liuOnFault s (s.liu.sampled ++ levels) k with inFlight := some { fl with destroyed := true } } k

/-- A fault a receiver finds: the verdict is discarded, a merge watch ends, and the FCU takes the fault
(R34, R101, R144; log entry 10). -/
def receiverFault (s : State) (levels : List Level) (k : FaultKind) : State :=
  let t := countJoinQuiet s levels
  let t := liuOnFault t (s.liu.sampled ++ levels) k
  reportStanding (scoreReceiverFault (abandonMergeWatch { t with verdict := none }) k)

/-- FAULT_FOUND: the first fault of the frame is found at the last of the levels (R34); with no levels, at the level at
which the station lost contention (R26). -/
def execFaultFound (levels : List Level) (s : State) : Host.Outcome State Fault Refusal :=
  if sends s then
    match s.inFlight with
    | none => done s
    | some fl =>
      match txFaultNow fl.content (s.liu.sampled ++ levels) with
      | none => done s
      | some k => done (senderFault s fl levels k)
  else if (s.liu.phase = .receiving ∨ s.liu.phase = .window ∨ s.liu.phase = .ending) ∧ s.liu.fault = none
      ∧ sourceIsOwn s.own (s.liu.sampled ++ levels) = false then
    match rxFaultOn s.liu.sampled levels with
    | none => done s
    | some k => done (receiverFault s levels k)
  else done s

/-- How many of the levels come before RECOVERING, and how many recessive ones in a row RECOVERING has sampled before:
the rest of a mark, none, or a frame followed silently up to its next irregularity (R35, R37). -/
def recoveryStart (s : State) (levels : List Level) : Option (Nat × Nat) :=
  if s.liu.markBits ≠ 0 then some (s.liu.markBits, 0)
  else
    match s.liu.phase with
    | .recovering => some (0, s.liu.recovery)
    | .receiving | .window | .ending =>
      if s.liu.fault = none then none
      else (breakAfter s.liu.sampled levels levels.length).map fun k => (k + 1, 0)
    | .off | .listening | .resting | .idle | .sending | .aborting => none

/-- The LIU in RECOVERING, with `n` recessive bits sampled in a row (R37). -/
def enterRecovering (s : State) (n : Nat) : State :=
  { s with liu := { s.liu with phase := .recovering, markBits := 0, recovery := n } }

/-- `n` bit times of the window before a CHECK fault's mark, and of a mark, none of them after its end (R35, R39). -/
def passMark (s : State) (n : Nat) : State :=
  { s with liu := { s.liu with
      phase := markPhase (s.liu.markBits - n), markBits := s.liu.markBits - n, recovery := 0 } }

/-- LINE_RECOVERED: in RECOVERING, seven consecutive recessive bits (R37). Levels that do not reach the seventh take the
LIU on through its mark, from the mark or from a frame followed silently into RECOVERING, and on in RECOVERING (R35,
R39). -/
def execLineRecovered (levels : List Level) (s : State) : Host.Outcome State Fault Refusal :=
  let t := countJoinQuiet s levels
  if s.liu.markBits ≠ 0 ∧ levels.length ≤ s.liu.markBits then done (passMark t levels.length)
  else
    match recoveryStart s levels with
    | none => done s
    | some (k, n) =>
      if sevenRecessive n (levels.drop k) then done (betweenFrames t none)
      else
        match shortRun n (levels.drop k) with
        | some m => done (enterRecovering t m)
        | none => done s

/-- SILENT_FRAME_END: a frame followed silently reaches the end of its end field with nothing further amiss (R37); levels
that do not reach it are sampled, and the LIU is in RECEIVING, WINDOW or ENDING by their place (R39). -/
def execSilentFrameEnd (levels : List Level) (s : State) : Host.Outcome State Fault Refusal :=
  if (s.liu.phase = .receiving ∨ s.liu.phase = .window ∨ s.liu.phase = .ending) ∧ s.liu.fault ≠ none
      ∧ s.liu.markBits = 0 then
    if silentEnd s.liu.sampled levels then done (betweenFrames (countJoinQuiet s levels) none)
    else if silentSoFar s.liu.sampled levels then done (sampleOn s levels (phaseAt (s.liu.sampled ++ levels)))
    else done s
  else done s

/-- Whether a duplicate is sighted: the own number in the source field of a frame the station receives, or a SLOT
fault found in its own frame (R29, R32, R139). -/
def sighted (s : State) (levels : List Level) : Bool :=
  (decide (s.liu.phase = .receiving) && decide (sourceNow (s.liu.sampled ++ levels) = some s.own))
    || (levels.isEmpty && decide (s.liu.fault = some .slot))

/-- DUPLICATE_SIGHTING: the station notice, and the halt (R139). -/
def execDuplicateSighting (levels : List Level) (s : State) : Host.Outcome State Fault Refusal :=
  if takesRequests s.lifecycle ∧ sighted s levels = true then done (halt (setFlag s .duplicateStation)) else done s

end Sys2Proof.Machine
end

