-- ==== Sys2Proof/Machine/TimerHappenings.lean ====
section
/-! DEFINITION. Station time and the running out of each timer (R13, R14, R156). A timer that is stopped, or whose
duration has not passed, does not run out: the happening leaves the state as it is (R13; log entry 7). -/

namespace Sys2Proof.Machine

/-- STATION_TIME_TICK: one millisecond (R156). -/
def execStationTimeTick (s : State) : Host.Outcome State Fault Refusal := done { s with time := s.time + 1 }

/-- PERIOD_TIMER_EXPIRY: PUBLISH is raised and the timer starts again from the current station time (R69). -/
def execPeriodTimerExpiry (i : EntryIx) (s : State) : Host.Outcome State Fault Refusal :=
  if timerDue s.time (s.rt i).periodTimer then
    done ((raisePublish s i).modRt i fun r => { r with periodTimer := startTimer s.time (s.cfg i).period })
  else done s

/-- INHIBIT_TIMER_EXPIRY: a pending PUBLISH is no longer held back (R70). -/
def execInhibitTimerExpiry (i : EntryIx) (s : State) : Host.Outcome State Fault Refusal :=
  if timerDue s.time (s.rt i).inhibitTimer then done (s.modRt i fun r => { r with inhibitTimer := none }) else done s

/-- FRESHNESS_TIMER_EXPIRY: the mirror goes STALE (R58). -/
def execFreshnessTimerExpiry (i : EntryIx) (s : State) : Host.Outcome State Fault Refusal :=
  if timerDue s.time (s.rt i).freshTimer then
    done (requestAutoPull
      (post (s.modRt i fun r => { r with mirror := some .stale, freshTimer := none }) i Reason.stale.alone) i)
  else done s

/-- HOLD_TIMER_EXPIRY: the hold ends (R62). -/
def execHoldTimerExpiry (i : EntryIx) (s : State) : Host.Outcome State Fault Refusal :=
  if timerDue s.time (s.rt i).holdTimer then
    done (post (s.modRt i fun r => { r with held := false, holdTimer := none }) i Reason.holdExpired.alone)
  else done s

/-- CLAIM_TIMER_EXPIRY: the claim ends with CLAIM-TIMEOUT (R112). -/
def execClaimTimerExpiry (i : EntryIx) (s : State) : Host.Outcome State Fault Refusal :=
  if timerDue s.time (s.rt i).claimTimer then done (endClaim s i .claimTimeout) else done s

/-- PULL_REPLY_TIMER_EXPIRY: the pull is asked again, or given up at 3 attempts (R102). -/
def execPullReplyTimerExpiry (i : EntryIx) (s : State) : Host.Outcome State Fault Refusal :=
  match findPull s i with
  | none => done s
  | some p =>
    if timerDue s.time p.replyTimer then
      if p.attempts < 3 then done (keepPull s i fun q => { q with phase := .waiting, replyTimer := none })
      else done (pullUnanswered s i)
    else done s

/-- SILENCE_TIMER_EXPIRY: the station is SILENT, its mirrors are orphaned and the loss is reported (R132). -/
def execSilenceTimerExpiry (st : Station) (s : State) : Host.Outcome State Fault Refusal :=
  if timerDue s.time (s.record st).silence then done (orphanAndReport (setRecord s st ⟨.silent, none⟩) st) else done s

/-- OWN_ANNOUNCE_TIMER_EXPIRY: a PRESENT is raised and the timer starts again (R137). -/
def execOwnAnnounceTimerExpiry (s : State) : Host.Outcome State Fault Refusal :=
  if timerDue s.time s.announceTimer then done (restartAnnounceTimer (raiseAnnounce s .present)) else done s

end Sys2Proof.Machine
end

