-- ==== Sys2Proof/Machine/Dispatch.lean ====
section
/-! DEFINITION. The meaning of every command, one arm per row of spec/opcode_table.json. -/

namespace Sys2Proof.Machine

def exec (i : Instr) (s : State) : Host.Outcome State Fault Refusal :=
  match i with
  | .nop operands => Sys2Proof.Machine.execNop operands s
  | .status operands => Sys2Proof.Machine.execStatus operands s
  | .nextNotice operands => Sys2Proof.Machine.execNextNotice operands s
  | .read operands => Sys2Proof.Machine.execRead operands s
  | .readDelivery operands => Sys2Proof.Machine.execReadDelivery operands s
  | .readRoster operands => Sys2Proof.Machine.execReadRoster operands s
  | .write operands => Sys2Proof.Machine.execWrite operands s
  | .hold operands => Sys2Proof.Machine.execHold operands s
  | .release operands => Sys2Proof.Machine.execRelease operands s
  | .pull operands => Sys2Proof.Machine.execPull operands s
  | .claim operands => Sys2Proof.Machine.execClaim operands s
  | .setStation operands => Sys2Proof.Machine.execSetStation operands s
  | .setItem operands => Sys2Proof.Machine.execSetItem operands s
  | .start operands => Sys2Proof.Machine.execStart operands s
  | .stop operands => Sys2Proof.Machine.execStop operands s
  | .rejoin operands => Sys2Proof.Machine.execRejoin operands s
  | .restart operands => Sys2Proof.Machine.execRestart operands s
  | .unknownCommandCode code operands => Sys2Proof.Machine.execUnknownCommandCode code operands s
  | .emptyTransaction => Sys2Proof.Machine.execEmptyTransaction s
  | .fullReset => Sys2Proof.Machine.execFullReset s
  | .stationTimeTick => Sys2Proof.Machine.execStationTimeTick s
  | .lineFree recessive => Sys2Proof.Machine.execLineFree recessive s
  | .startBitCapture => Sys2Proof.Machine.execStartBitCapture s
  | .frameVerdictPoint levels => Sys2Proof.Machine.execFrameVerdictPoint levels s
  | .receivedFrameCompletion levels => Sys2Proof.Machine.execReceivedFrameCompletion levels s
  | .joinQuiet recessive => Sys2Proof.Machine.execJoinQuiet recessive s
  | .ownFrameOutcome levels => Sys2Proof.Machine.execOwnFrameOutcome levels s
  | .faultFound levels => Sys2Proof.Machine.execFaultFound levels s
  | .lineRecovered levels => Sys2Proof.Machine.execLineRecovered levels s
  | .silentFrameEnd levels => Sys2Proof.Machine.execSilentFrameEnd levels s
  | .duplicateSighting levels => Sys2Proof.Machine.execDuplicateSighting levels s
  | .periodTimerExpiry entry => Sys2Proof.Machine.execPeriodTimerExpiry entry s
  | .inhibitTimerExpiry entry => Sys2Proof.Machine.execInhibitTimerExpiry entry s
  | .freshnessTimerExpiry entry => Sys2Proof.Machine.execFreshnessTimerExpiry entry s
  | .holdTimerExpiry entry => Sys2Proof.Machine.execHoldTimerExpiry entry s
  | .claimTimerExpiry entry => Sys2Proof.Machine.execClaimTimerExpiry entry s
  | .pullReplyTimerExpiry entry => Sys2Proof.Machine.execPullReplyTimerExpiry entry s
  | .silenceTimerExpiry station => Sys2Proof.Machine.execSilenceTimerExpiry station s
  | .ownAnnounceTimerExpiry => Sys2Proof.Machine.execOwnAnnounceTimerExpiry s
  | .startBitOfAnotherStation => Sys2Proof.Machine.execStartBitOfAnotherStation s

end Sys2Proof.Machine
end

