-- ==== Sys2Proof/Safety.lean ====
section
/-! DEFINITION. What claims are stated in: the laws the manual says the blocks keep, each a property of one state, the
conjunctions of them that every step keeps, and the words for frames, windows, operands and requests. -/

namespace Sys2Proof.Machine

/-! ### Laws of one entry -/

/-- The role an entry may have by its configuration (R8): UNUSED exactly when it is configured so, the configured role
where the entry is not movable. -/
def roleLaw (c : ItemConfig) (r : Runtime) : Prop :=
  (r.role = .unused ↔ c.role = .unused) ∧
  (c.movable = false → r.role ≠ .claiming ∧ r.role ≠ .yielding ∧ (r.role = .publisher ↔ c.role = .publisher))

/-- The conditions under which a field of the runtime part is present (R7, R109). -/
def presenceLaw (r : Runtime) : Prop :=
  (r.mirror.isSome ↔ r.role.isMirror = true) ∧
  (r.source.isSome ↔ r.mirror.isSome ∧ r.mirror ≠ some .empty) ∧
  (r.yield.isSome ↔ r.role = .yielding) ∧
  (r.claim.isSome ↔ r.role = .claiming) ∧
  (r.pullWanted = true → r.role = .subscriber) ∧
  (r.freshTimer.isSome → r.role = .subscriber ∧ r.mirror = some .fresh) ∧
  (r.periodTimer.isSome → r.role = .publisher) ∧
  (r.inhibitTimer.isSome → r.role = .publisher) ∧
  (r.delivery.isSome → r.role = .publisher ∨ r.role = .yielding)

/-- The kinds of request a role allows (R12). -/
def pendingLaw (r : Runtime) : Prop :=
  (r.pending.publish.isSome → r.role = .publisher) ∧ (r.pending.yield = true → r.role = .yielding) ∧
  (r.pending.claim = true → r.role = .claiming) ∧ (r.pending.pull = true → r.role = .subscriber)

/-- An entry is CLAIMING exactly while its claim timer runs (R112). -/
def claimLaw (r : Runtime) : Prop := r.role = .claiming ↔ r.claimTimer.isSome

/-- An entry is held only in a mirror role with its hold timer running (R62). -/
def holdLaw (r : Runtime) : Prop := (r.held = true → r.role.isMirror = true) ∧ (r.held = true ↔ r.holdTimer.isSome)

/-- The recorded source is another station; an EMPTY entry holds a value of zero bytes (R11). -/
def mirrorLaw (own : Option Station) (c : ItemConfig) (r : Runtime) : Prop :=
  (∀ o, r.source = some o → own ≠ some o.station) ∧
  (r.mirror = some .empty → valueOf c r = List.replicate c.length 0)

/-- Receipts and refused are disjoint subsets of the required receivers; only an entry with required receivers, whose
attempt limit then lies from 1 to 15, holds a record; the attempts used stay within the limit, and below it while the
record is OPEN (R82, R85, R87, R158). -/
def deliveryLaw (c : ItemConfig) (r : Runtime) : Prop :=
  (c.required ≠ 0 → 1 ≤ c.attemptLimit ∧ c.attemptLimit ≤ 15) ∧
  ∀ d, r.delivery = some d →
    c.required ≠ 0 ∧ d.receipts &&& d.refused = 0 ∧ (d.receipts ||| d.refused) &&& ~~~ c.required = 0 ∧
    d.attempts ≤ c.attemptLimit ∧ (d.state = .opened → d.attempts < c.attemptLimit)

/-- The ranges in which SET-ITEM stores the fields of a used entry (R4, R158). -/
def configLaw (c : ItemConfig) : Prop :=
  c.length ≤ 12 ∧ c.period ≤ 65535 ∧ c.inhibit ≤ 1000 ∧ c.freshness ≤ 65535 ∧ c.attemptLimit ≤ 15 ∧
  (c.role ≠ .unused → 64 ≤ c.key.toNat ∧ c.cls ≠ .system) ∧ (c.periodic = true → 1 ≤ c.period) ∧
  (c.role = .unused → c = .unused)

/-! ### Laws of a block -/

/-- Each key is held by at most one used entry (R1). -/
def keyLaw (s : State) : Prop :=
  ∀ i j, (s.cfg i).role ≠ .unused → (s.cfg j).role ≠ .unused → (s.cfg i).key = (s.cfg j).key → i = j

/-- At most 32 notice records, no two for one entry, no entry with both a record and the deferred mark, and the queue
full while an entry carries the mark (R169, R171). -/
def noticeLaw (s : State) : Prop :=
  s.notices.length ≤ 32 ∧ (s.notices.map (·.entry)).Nodup ∧
  ∀ i, (s.rt i).deferred.isSome → i ∉ s.notices.map (·.entry) ∧ s.notices.length = 32

/-- At most 8 Pull Table records, no two for one entry, each for a SUBSCRIBER entry (R95). -/
def pullLaw (s : State) : Prop :=
  s.pulls.length ≤ 8 ∧ (s.pulls.map (·.entry)).Nodup ∧ ∀ p ∈ s.pulls, (s.rt p.entry).role = .subscriber

/-- No entry carries the pull-wanted mark while the table holds fewer than 8 records, and no entry with a record
carries it (R96). -/
def wantedLaw (s : State) : Prop :=
  ∀ i, (s.rt i).pullWanted = true → s.pulls.length = 8 ∧ i ∉ s.pulls.map (·.entry)

/-- A PULL is pending only with a Pull Table record (R12). -/
def pullRequestLaw (s : State) : Prop :=
  ∀ i, (s.rt i).pending.pull = true → i ∈ s.pulls.map (·.entry)

/-- The score lies between 0 and 125, the standing is the one it calls for, and the clean count is 0 in every standing
but MUTED, where it is below 48 (R146, R150). -/
def fcuLaw (s : State) : Prop :=
  s.fcu.score ≤ 125 ∧ s.fcu.standing = standingOf s.fcu.score ∧
  (s.fcu.standing ≠ .muted → s.fcu.cleanCount = 0) ∧ s.fcu.cleanCount < 48

/-- The own roster record is PRESENT exactly while the lifecycle is ONLINE or LEAVING, and the own record runs no
silence timer (R130). -/
def ownRecordLaw (s : State) : Prop :=
  ∀ p, s.params = some p →
    ((s.record p.station).state = .present ↔ s.lifecycle = .online ∨ s.lifecycle = .leaving) ∧
      (s.record p.station).silence = none

/-- The silence timer of another station's record runs exactly while the record is PRESENT, HALTED apart, where none
runs (R130, R165). -/
def silenceLaw (s : State) : Prop :=
  (∀ st, (s.record st).silence.isSome → (s.record st).state = .present) ∧
  ∀ p, s.params = some p → s.lifecycle ≠ .halted →
    ∀ st, st ≠ p.station → (s.record st).state = .present → (s.record st).silence.isSome

/-- A station that is neither ONLINE nor LEAVING, or that is MUTED, is sending no frame and has no abort mark to drive
(R40; its slot answers are decided at the verdict point, R30). -/
def quietLaw (s : State) : Prop :=
  (s.liu.contention = .sending → (s.lifecycle = .online ∨ s.lifecycle = .leaving) ∧ s.fcu.standing ≠ .muted) ∧
  (s.liu.markBits ≠ 0 → (s.lifecycle = .online ∨ s.lifecycle = .leaving) ∧ s.fcu.standing ≠ .muted)

/-- While a frame is being sent its request is in flight and not destroyed; while a mark is owed or driven, the score
is still below MUTED after the outcome that may be to come; the LIU is OFF in CONFIGURING and HALTED (R35, R39, R73,
R143). It is what makes `quietLaw` last. Of R39's table: SENDING is a sender's phase, a sender is in SENDING, WINDOW or
ENDING, ABORTING has one to eight bits of a mark to come, and a mark that waits for the end field waits in WINDOW after a
CHECK fault (R35). -/
def driveLaw (s : State) : Prop :=
  (s.liu.phase = .sending → s.liu.contention = .sending) ∧
  (s.liu.contention = .sending →
    (s.liu.phase = .sending ∨ s.liu.phase = .window ∨ s.liu.phase = .ending) ∧
      (s.inFlight.map (·.destroyed)) = some false) ∧
  (s.liu.phase = .aborting ↔ 1 ≤ s.liu.markBits ∧ s.liu.markBits ≤ 8) ∧
  (8 < s.liu.markBits → s.liu.phase = .window ∧ s.liu.contention ≠ .sending ∧ s.liu.fault = some .check) ∧
  s.liu.recovery < 7 ∧
  (s.liu.markBits ≠ 0 → s.fcu.score + (if (s.inFlight.map (·.destroyed)) = some true then 6 else 0) ≤ 54) ∧
  (s.lifecycle = .configuring ∨ s.lifecycle = .halted → s.liu = .off)

/-- The station parameters are set in every lifecycle but CONFIGURING, and LEAVING is never MUTED (R148, R159). -/
def lifecycleLaw (s : State) : Prop :=
  (s.lifecycle ≠ .configuring → s.params.isSome) ∧
  (s.lifecycle = .leaving → s.fcu.standing ≠ .muted) ∧
  (s.lifecycle = .configuring ∨ s.lifecycle = .joining → s.fcu.standing = .good ∧ s.fcu.score = 0) ∧
  (s.liu.phase = .off ↔ s.lifecycle = .configuring ∨ s.lifecycle = .halted)

/-- Every timer is stopped, every hold clear and no frame in flight in HALTED (R13, R165). -/
def haltedLaw (s : State) : Prop :=
  s.lifecycle = .halted →
    (∀ i, (s.rt i).periodTimer = none ∧ (s.rt i).inhibitTimer = none ∧ (s.rt i).freshTimer = none ∧
      (s.rt i).holdTimer = none ∧ (s.rt i).claimTimer = none ∧ (s.rt i).held = false ∧ (s.rt i).role ≠ .claiming) ∧
    (∀ p ∈ s.pulls, p.replyTimer = none ∧ p.onLine = false ∧ p.mergeWatch = false) ∧
    (∀ st, (s.record st).silence = none) ∧ s.announceTimer = none ∧ s.inFlight = none ∧ s.verdict = none ∧
    s.liu = .off

/-- Nothing has been received or requested in CONFIGURING: the blocks other than IT, NQ and SC hold their reset values,
and an entry differs from its reset values by a hold and deferred reasons alone (R19, R160, R166). -/
def configuringLaw (s : State) : Prop :=
  s.lifecycle = .configuring →
    s.liu = .off ∧ s.verdict = none ∧ s.announce = none ∧ s.inFlight = none ∧ s.pulls = [] ∧ s.announceTimer = none ∧
    (∀ st, s.record st = .cleared) ∧
    (∀ i, { s.rt i with held := false, holdTimer := none, deferred := none } = resetRuntime (s.cfg i))

/-- The verdict held is on another station's frame, takes no value from the own number, and changes the role of movable
entries alone (R11, R29, R117, R122, R124). -/
def verdictLaw (s : State) : Prop :=
  ∀ v, s.verdict = some v →
    (∀ p, s.params = some p → v.frame.source ≠ p.station ∧ v.effective ≠ some p.station) ∧
    ∀ i, v.entry = some i → (v.verdict = .cede ∨ v.verdict = .assume ∨ v.verdict = .depose) → (s.cfg i).movable = true

/-- A yield target is another station (R109). -/
def targetLaw (s : State) : Prop :=
  ∀ i y p, (s.rt i).yield = some y → s.params = some p → y.target ≠ p.station

/-! ### Laws kept together: each conjunction is one that every step keeps -/

/-- The laws of every entry (R7, R8, R12, R62, R112). -/
def entriesLaw (s : State) : Prop :=
  ∀ i, roleLaw (s.cfg i) (s.rt i) ∧ presenceLaw (s.rt i) ∧ pendingLaw (s.rt i) ∧ claimLaw (s.rt i) ∧ holdLaw (s.rt i)

/-- The laws of the Pull Table (R12, R95, R96). -/
def pullTableLaw (s : State) : Prop := pullLaw s ∧ wantedLaw s ∧ pullRequestLaw s

/-- The Item Table and the Pull Table keep their laws, with what the laws rest on. -/
def tablesLawful (s : State) : Prop := configuringLaw s ∧ verdictLaw s ∧ entriesLaw s ∧ pullTableLaw s

/-- The law of mirrored values, with what it rests on (R11). -/
def mirrorsLawful (s : State) : Prop :=
  tablesLawful s ∧ targetLaw s ∧
  ∀ i, configLaw (s.cfg i) ∧ mirrorLaw (s.params.map (·.station)) (s.cfg i) (s.rt i)

/-- The score, the standing and what the station may drive (R40, R146). -/
def driveLawful (s : State) : Prop := fcuLaw s ∧ quietLaw s ∧ driveLaw s

/-- The lifecycle with the LIU, the parameters and the FCU (R39, R148, R154, R159). -/
def lifecycleLawful (s : State) : Prop := configuringLaw s ∧ haltedLaw s ∧ fcuLaw s ∧ lifecycleLaw s

/-- The roster records, the own one apart (R130). -/
def rosterLawful (s : State) : Prop := configuringLaw s ∧ haltedLaw s ∧ ownRecordLaw s ∧ silenceLaw s

/-! ### Words of the claims: the line -/

/-- The frames a station may send: R24's constraints on the fields. -/
def Frame.allowed (f : Frame) : Prop :=
  match f.body with
  | .announce _ => f.cls = .system ∧ f.key.toNat = f.source.val
  | .publish _ _ p => f.cls ≠ .system ∧ 64 ≤ f.key.toNat ∧ p.length ≤ 12
  | .yield newOwner _ _ p => f.cls ≠ .system ∧ 64 ≤ f.key.toNat ∧ p.length ≤ 12 ∧ newOwner ≠ f.source
  | .claim _ _ | .pull => f.cls ≠ .system ∧ 64 ≤ f.key.toNat

/-- The arbitration value of a frame (00_scope, Arbitration value). -/
def Frame.arbitrationValue (f : Frame) : Nat := f.cls.code * 32768 + f.key.toNat * 8 + f.body.kindCode

/-- The 64 levels of an acknowledgement window (R31). -/
def windowLevels (w : Window) : List Level := (List.finRange 32).flatMap fun st => (w[st]).levels

/-- The end field: seven recessive bits (R21). -/
def endField : List Level := List.replicate 7 true

/-- The levels of two frames driven together: dominant wherever either is (section 2.1). -/
def lineOf (f g : Frame) : List Level := List.zipWith (· && ·) f.levels g.levels

/-! ### Words of the claims: the local port -/

/-- The byte that names entry `i` as an operand. -/
def entryByte (i : EntryIx) : Byte := BitVec.ofNat 8 i.val

/-- The commands that take an entry operand, SET-ITEM and WRITE apart (section 12.3). -/
def entryCommands : List (List Byte → Instr) := [.read, .readDelivery, .hold, .release, .pull, .claim]

/-- The operand bytes of a transaction that carries a command code, known or not. -/
def operandsOf : Instr → Option (List Byte)
  | .nop o | .status o | .nextNotice o | .read o | .readDelivery o | .readRoster o | .write o | .hold o | .release o
  | .pull o | .claim o | .setStation o | .setItem o | .start o | .stop o | .rejoin o | .restart o
  | .unknownCommandCode _ o => some o
  | .emptyTransaction | .fullReset | .stationTimeTick | .lineFree _ | .startBitCapture | .frameVerdictPoint _
  | .receivedFrameCompletion _ | .joinQuiet _ | .ownFrameOutcome _ | .faultFound _ | .lineRecovered _
  | .silentFrameEnd _ | .duplicateSighting _ | .periodTimerExpiry _ | .inhibitTimerExpiry _ | .freshnessTimerExpiry _
  | .holdTimerExpiry _ | .claimTimerExpiry _ | .pullReplyTimerExpiry _ | .silenceTimerExpiry _
  | .ownAnnounceTimerExpiry | .startBitOfAnotherStation => none

/-- Whether a configuration part is in the form SET-ITEM stores: every field it carries in its range, every other field
zero (R5, R158). -/
def ItemConfig.stored (c : ItemConfig) : Prop :=
  let publisher := c.role = .publisher ∨ c.movable = true
  let subscriber := c.role = .subscriber ∨ c.movable = true
  c.role ≠ .unused ∧ 64 ≤ c.key.toNat ∧ c.cls ≠ .system ∧ c.length ≤ 12 ∧
  (¬ publisher → c.onWrite = false ∧ c.periodic = false ∧ c.inhibit = 0 ∧ c.required = 0) ∧
  (if c.periodic then 1 ≤ c.period ∧ c.period ≤ 65535 else c.period = 0) ∧ c.inhibit ≤ 1000 ∧
  (if c.required = 0 then c.attemptLimit = 0 else 1 ≤ c.attemptLimit ∧ c.attemptLimit ≤ 15) ∧
  (if c.role = .publisher then c.initial.length = c.length else c.initial = List.replicate c.length 0) ∧
  (¬ subscriber → c.freshness = 0 ∧ c.autoPull = false) ∧ c.freshness ≤ 65535

/-- What SET-ITEM refuses with BAD-ARG in its operands alone, by byte position (R158, R188). -/
def itemOutOfRange (ops : List Byte) : Prop :=
  let role := (byteAt ops 2).toNat
  let publisher := role = 1 ∨ (byteAt ops 7).getLsbD 0 = true
  2 < role ∨ (role ≠ 0 ∧
    (word16At ops 3 < 64 ∨ 4095 < word16At ops 3 ∨ (byteAt ops 5).toNat = 0 ∨ 3 < (byteAt ops 5).toNat
      ∨ 12 < (byteAt ops 6).toNat
      ∨ (publisher ∧ (byteAt ops 7).getLsbD 2 = true ∧ word16At ops 8 = 0)
      ∨ (publisher ∧ 1000 < word16At ops 10)
      ∨ (publisher ∧ word32At ops 12 ≠ 0 ∧ ((byteAt ops 16).toNat = 0 ∨ 15 < (byteAt ops 16).toNat))))

/-- What SET-STATION refuses with BAD-ARG, by byte position (R157, R187). -/
def stationOutOfRange (ops : List Byte) : Prop :=
  31 < (byteAt ops 1).toNat ∨ 3 < (byteAt ops 2).toNat
    ∨ word16At ops 3 < 10 ∨ 1000 < word16At ops 3 ∨ word16At ops 5 < 30 ∨ 10000 < word16At ops 5
    ∨ word16At ops 7 < 5 ∨ 1000 < word16At ops 7 ∨ word16At ops 9 < 2 ∨ 500 < word16At ops 9
    ∨ (byteAt ops 11).toNat = 0 ∨ 250 < (byteAt ops 11).toNat

/-! ### Words of the claims: requests and reasons -/

/-- Whether a request is pending (R64). -/
def isPending (s : State) : Request → Prop
  | .publish i => (s.rt i).pending.publish.isSome = true
  | .pull i => (s.rt i).pending.pull = true
  | .claim i => (s.rt i).pending.claim = true
  | .yield i => (s.rt i).pending.yield = true
  | .announce t => s.announce.map (·.type) = some t

/-- Whether a request is eligible: R71's table. -/
def isEligible (s : State) (q : Request) : Prop :=
  isPending s q ∧ s.fcu.standing ≠ .muted ∧
  match q with
  | .publish i => s.lifecycle = .online ∧ (s.rt i).inhibitTimer = none
  | .pull _ | .claim _ | .yield _ => s.lifecycle = .online
  | .announce .leave => s.lifecycle = .leaving
  | .announce .join | .announce .present => s.lifecycle = .online

/-- The arbitration value of a request (R72). -/
def requestValue (s : State) : Request → Nat
  | .publish i => (s.cfg i).cls.code * 32768 + (s.cfg i).key.toNat * 8 + 2
  | .pull i => (s.cfg i).cls.code * 32768 + (s.cfg i).key.toNat * 8 + 3
  | .claim i => (s.cfg i).cls.code * 32768 + (s.cfg i).key.toNat * 8 + 1
  | .yield i => (s.cfg i).cls.code * 32768 + (s.cfg i).key.toNat * 8
  | .announce _ => 8 * s.own.val + 4

/-- Whether the host has still to collect these reasons for entry `i`: they are in its notice record or among its
deferred reasons (R168). -/
def awaits (s : State) (i : EntryIx) (rs : ReasonSet) : Prop :=
  (∃ n ∈ s.notices, n.entry = i ∧ n.reasons &&& rs = rs) ∨ ∃ d, (s.rt i).deferred = some d ∧ d &&& rs = rs

/-! ### Words of the claims: verdicts -/

/-- Entry `i` is the one used entry that holds `key` (R1). -/
def heldBy (s : State) (key : Key) (i : EntryIx) : Prop :=
  ∀ j, ((s.cfg j).role ≠ .unused ∧ (s.cfg j).key = key) ↔ j = i

/-- `b` is newer than `a` in serial order: R2's table. -/
def serialNewer (a b : Byte) : Prop :=
  1 ≤ (b.toNat + 256 - a.toNat) % 256 ∧ (b.toNat + 256 - a.toNat) % 256 ≤ 127

/-- A PUBLISH, or a YIELD to `effective`, with what it carries; the effective source of a PUBLISH is its sender
(section 3.2). -/
def publication (f : Frame) (effective : Station) (g v : Byte) (payload : List Byte) : Prop :=
  (f.body = .publish g v payload ∧ effective = f.source) ∨ f.body = .yield effective g v payload

/-- What the verdict on a frame is, how it is answered, the reasons it carries and the effective source (R42). -/
def judged (s : State) (f : Frame) : Verdict × SlotSymbol × ReasonSet × Option Station :=
  ((verdictOn s f).verdict, (verdictOn s f).answer, (verdictOn s f).reasons, (verdictOn s f).effective)

/-- A frame with another value in its check field. -/
def wrongCheck (f : Frame) (c : Nat) : List Level := false :: insertBeats 0 (f.covered ++ natBits 16 c)

/-- The bits of a header, whatever its fields (R21). -/
def headerBits (cls key kind source : Nat) : List Bool :=
  natBits 2 cls ++ natBits 12 key ++ natBits 3 kind ++ natBits 5 source

/-- The places of the fill bits among a frame's levels, the start bit at 0: span positions 25 to 30 of an ANNOUNCE, 32 to
34 of a CLAIM and 28 to 30 of a YIELD, with the beats before them counted (R21, R22). -/
def Frame.fillPlace (f : Frame) (n : Nat) : Prop :=
  match f.body with
  | .announce _ => 28 ≤ n ∧ n ≤ 33
  | .claim _ _ => n = 35 ∨ n = 37 ∨ n = 38
  | .yield _ _ _ _ => 31 ≤ n ∧ n ≤ 33
  | .publish _ _ _ | .pull => False

/-- The places of the levels that a receiver checks one by one: beats, fill bits and end-field bits (R22, R24, R31). -/
def Frame.fixedPlace (f : Frame) (n : Nat) : Prop :=
  (1 ≤ n ∧ n % 9 = 0 ∧ n < f.levels.length) ∨ f.fillPlace n ∨
    (f.levels.length + 64 ≤ n ∧ n < f.levels.length + 71)

/-- A frame's levels to its last end-field bit, with at most one thing amiss, that within the first `m` levels: a level of
a beat, of a fill bit or of the end field inverted (but the fill bit before a CLAIM's fourth beat, which makes that beat
wrong as well), or a check field that does not match; or with nothing amiss, as its sender follows it after a SLOT fault. -/
def Frame.irregularLine (f : Frame) (w : Window) (m : Nat) (whole : List Level) : Prop :=
  whole = f.levels ++ windowLevels w ++ endField ∨
  (∃ c, c < 65536 ∧ c ≠ (crc f.covered).toNat ∧ f.levels.length ≤ m ∧
    whole = wrongCheck f c ++ windowLevels w ++ endField) ∨
  ∃ n b, n < m ∧ f.fixedPlace n ∧ (n = 35 → ∀ g a, f.body ≠ .claim g a) ∧
    (f.levels ++ windowLevels w ++ endField)[n]? = some (!b) ∧
    whole = (f.levels ++ windowLevels w ++ endField).set n b

/-- Seven recessive levels after these are the first seven in a row. -/
def sevenAtTheEnd (before : List Level) : Prop :=
  ∀ x y, before ++ List.replicate 7 true = x ++ List.replicate 7 true ++ y → y = []

/-- The levels end in an unbroken dominant run of five or more. -/
def endsInFiveDominant (levels : List Level) : Prop := ∃ pre, levels = pre ++ List.replicate 5 false

/-- The LIU between frames, as the lifecycle and the standing have it (R25, R37, R40). -/
def restingLiu (s : State) (joinQuiet : Nat) (w : Option Window) : Liu where
  phase := if s.lifecycle = .joining ∨ (s.fcu.standing = .muted ∧ (s.lifecycle = .online ∨ s.lifecycle = .leaving))
    then .listening else .resting
  sampled := []
  contention := .none
  fault := none
  window := w
  markBits := 0
  recovery := 0
  joinQuiet := joinQuiet
  gap := 0

end Sys2Proof.Machine
end

