-- ==== Sys2Proof/Certificates/Slice0/Obligations.lean ====
section
/-! DEFINITION. The statements for the provers, chapter by chapter of the manual. An equation `exec c s = .next t` fixes
every field of the next state: what `t` does not name is as in `s`. -/

open Sys2Proof Sys2Proof.Machine

/-! ## The queue and the local port (chapter 12) -/

/-- The command at the front of the queue runs with the queue's rest waiting, no command changes the queue, and every
command of the table answers a next state. On an empty queue the block idles: that clause is the model's choice (log
entry 11). -/
def Obligations.StepRunsTheFrontCommand : Prop :=
  (∀ (c : Instr) (rest : List Instr) (s : State), s.pending = c :: rest → step s = exec c (s.withPending rest)) ∧
  (∀ s : State, s.pending = [] → step s = .next s) ∧
  ∀ (c : Instr) (s : State), ∃ t, exec c s = .next t ∧ t.pending = s.pending

/-- R181. Every transaction shifts out the buffer as it stood when chip-select was asserted; every command but NOP puts
its own reply there, a status byte first; nothing else touches it, but for full reset, which empties it. R182. NOP leaves
the reply buffer as it stands and changes no state, whatever bytes follow its code; each byte shifted out is that of the
reply in the buffer, 00H after it, FFH throughout while there is none. -/
def Obligations.ReplyBufferHoldsTheLastReply : Prop :=
  (∀ (ops : List Byte) (s : State), exec (.nop ops) s = .next { s with
    shiftedOut := (List.range (ops.length + 1)).map fun k =>
      match s.reply with
      | some r => r.getD k 0x00
      | none => 0xFF }) ∧
  (∀ (ops : List Byte) (s t : State), exec .fullReset s = .next t →
    exec (.nop ops) t = .next { t with shiftedOut := List.replicate (ops.length + 1) 0xFF }) ∧
  (∀ (c : Instr) (ops : List Byte) (s t : State), operandsOf c = some ops → exec c s = .next t →
    t.shiftedOut.length = ops.length + 1 ∧
    (∀ k ≤ ops.length, t.shiftedOut[k]? = some (match s.reply with
      | some r => r.getD k 0x00
      | none => 0xFF)) ∧
    (if c = .nop ops then t.reply = s.reply
      else ∃ (st : Status) (results : List Byte), t.reply = some (st.code :: results) ∧
        (st ≠ .ok → st ≠ .badConfig → results = []))) ∧
  (∀ (ops : List Byte) (s t : State), exec (.restart ops) s = .next t → t.reply = some [0x00]) ∧
  (∀ (c : Instr) (s t : State), operandsOf c = none → c ≠ .fullReset → exec c s = .next t → t.reply = s.reply) ∧
  ∀ s t : State, exec .fullReset s = .next t → t.reply = none

/-- R178: the bits clocked in make whole bytes, most significant bit first; fewer than 8 bits left over are discarded, and
a transaction of no whole byte executes nothing. R180, steps 1 to 4, with the command code table: what the port refuses,
and that a refused command changes nothing but the reply. -/
def Obligations.TransportChecksRefuse : Prop :=
  (∀ (bytes : List Byte) (leftover : List Bool), leftover.length < 8 →
    clockedCommand (bytes.flatMap byteBits ++ leftover) = transactionCommand bytes) ∧
  (∀ (code : Byte) (ops : List Byte), code ∉ commandCodes →
    transactionCommand (code :: ops) = .unknownCommandCode code ops) ∧
  (∀ (code : Byte) (ops : List Byte) (s : State),
    exec (.unknownCommandCode code ops) s = .next (withReply s ops s [0x06])) ∧
  (∀ s : State, transactionCommand [] = .emptyTransaction ∧
    exec .emptyTransaction s = .next { s with shiftedOut := [] }) ∧
  (∀ c ∈ .write :: .setItem :: entryCommands, ∀ s : State, exec (c []) s = .next (withReply s [] s [0x07])) ∧
  (∀ c ∈ .write :: .setItem :: entryCommands, ∀ (b : Byte) (rest : List Byte) (s : State), 128 ≤ b.toNat →
    exec (c (b :: rest)) s = .next (withReply s (b :: rest) s [0x08])) ∧
  (∀ c ∈ .write :: entryCommands, ∀ (i : EntryIx) (rest : List Byte) (s : State), (s.cfg i).role = .unused →
    exec (c (entryByte i :: rest)) s = .next (withReply s (entryByte i :: rest) s [0x08])) ∧
  (∀ (i : EntryIx) (rest : List Byte) (s : State), (s.cfg i).role ≠ .unused → rest.length < (s.cfg i).length →
    exec (.write (entryByte i :: rest)) s = .next (withReply s (entryByte i :: rest) s [0x07])) ∧
  (∀ (ops : List Byte) (s : State), ops.length < 11 →
    exec (.setStation ops) s = .next (withReply s ops s [0x07])) ∧
  ∀ (i : EntryIx) (rest : List Byte) (s : State),
    rest.length < 17 + (if (byteAt (entryByte i :: rest) 6).toNat ≤ 12
      then (byteAt (entryByte i :: rest) 6).toNat else 0) →
    exec (.setItem (entryByte i :: rest)) s = .next (withReply s (entryByte i :: rest) s [0x07])

/-- R180: bytes beyond the count needed are ignored; they are shifted out like the others and change nothing. -/
def Obligations.ExtraOperandBytesAreIgnored : Prop :=
  (∀ c ∈ [Instr.nop, .status, .nextNotice, .readRoster, .start, .stop, .rejoin, .restart],
    ∀ (extra : List Byte) (s t : State), exec (c []) s = .next t →
      exec (c extra) s = .next { t with shiftedOut := shiftOut s.reply (extra.length + 1) }) ∧
  (∀ c ∈ entryCommands, ∀ (b : Byte) (extra : List Byte) (s t : State), exec (c [b]) s = .next t →
      exec (c (b :: extra)) s = .next { t with shiftedOut := shiftOut s.reply (extra.length + 2) }) ∧
  (∀ (i : EntryIx) (value extra : List Byte) (s t : State), value.length = (s.cfg i).length →
    exec (.write (entryByte i :: value)) s = .next t →
      exec (.write (entryByte i :: (value ++ extra))) s
        = .next { t with shiftedOut := shiftOut s.reply (value.length + extra.length + 2) }) ∧
  (∀ (ops extra : List Byte) (s t : State), ops.length = 11 → exec (.setStation ops) s = .next t →
      exec (.setStation (ops ++ extra)) s = .next { t with shiftedOut := shiftOut s.reply (extra.length + 12) }) ∧
  ∀ (ops extra : List Byte) (s t : State), ops.length = itemBytesNeeded ops → exec (.setItem ops) s = .next t →
      exec (.setItem (ops ++ extra)) s = .next { t with shiftedOut := shiftOut s.reply (ops.length + extra.length + 1) }

/-- R185, R94: what READ and READ-DELIVERY report of a used entry, in every lifecycle; they change no state. That bits 2
to 7 of READ's byte of held and source read as 0 is the model's reading (log entry 23). -/
def Obligations.ReadingAnEntryReportsIt : Prop :=
  ∀ (i : EntryIx) (rest : List Byte) (s : State), (s.cfg i).role ≠ .unused →
    (exec (.read (entryByte i :: rest)) s = .next (withReply s (entryByte i :: rest) s
      ([0x00, (s.rt i).role.code,
          BitVec.ofNat 8 ((s.rt i).held.toNat + 2 * ((s.rt i).source.isSome).toNat),
          mirrorCode (s.rt i).mirror, (s.rt i).generation, (s.rt i).version,
          (match (s.rt i).source with | some o => BitVec.ofNat 8 o.station.val | none => 0xFF),
          BitVec.ofNat 8 (s.cfg i).length]
        ++ bytes16 (match (s.rt i).source with
            | some o => min ((s.time.toNat + 4294967296 - o.arrival.toNat) % 4294967296) 65535
            | none => 0)
        ++ (s.rt i).storage.toList.take (s.cfg i).length))) ∧
    exec (.readDelivery (entryByte i :: rest)) s = .next (withReply s (entryByte i :: rest) s
      (match (s.rt i).delivery with
      | none => [0x00, 0x00, 0x00, 0x00, BitVec.ofNat 8 (s.cfg i).attemptLimit] ++ bytes32 (s.cfg i).required
          ++ [0, 0, 0, 0, 0, 0, 0, 0]
      | some d => [0x00, (match d.state with | .opened => 0x01 | .delivered => 0x02 | .undelivered => 0x03),
            d.version, BitVec.ofNat 8 d.attempts, BitVec.ofNat 8 (s.cfg i).attemptLimit]
          ++ bytes32 (s.cfg i).required ++ bytes32 d.receipts ++ bytes32 d.refused))

/-- R140: READ-ROSTER gives the own number and two bits for each station, station 0 in the low bits of the last byte,
and changes no state. R186, R176: STATUS reports the station and empties the station notice set, and nothing else
changes; that bits 6 and 7 of the byte of that set read as 0 is the model's reading (log entry 23). R177: the attention
line is asserted exactly while the notice queue or the station notice set holds something. -/
def Obligations.ReadRosterAndStatusReportTheStation : Prop :=
  (∀ (ops : List Byte) (s : State), ∃ reply,
     exec (.readRoster ops) s = .next (withReply s ops s reply) ∧ reply.length = 10 ∧ reply[0]? = some 0x00 ∧
     reply[1]? = some (match s.params with | some p => BitVec.ofNat 8 p.station.val | none => 0xFF) ∧
     ∀ st : Station, ((reply.getD (9 - st.val / 4) 0).toNat / 4 ^ (st.val % 4)) % 4
       = (match (s.record st).state with | .absent => 0 | .present => 1 | .silent => 2)) ∧
  (∀ (ops : List Byte) (s : State), ∃ deferred : Nat,
    deferred = ((List.finRange 128).filter fun i => (s.rt i).deferred.isSome).length ∧
    exec (.status ops) s = .next (withReply s ops { s with flags := 0 }
      ([0x00, s.lifecycle.code, s.fcu.standing.code, BitVec.ofNat 8 s.fcu.score, BitVec.ofNat 8 s.fcu.cleanCount,
          faultCode s.fcu.lastFault, BitVec.ofNat 8 s.notices.length, BitVec.ofNat 8 deferred,
          BitVec.ofNat 8 s.pulls.length] ++ bytes32 s.time ++ [s.flags.setWidth 8]))) ∧
  ∀ s : State, s.attention = true ↔ s.notices ≠ [] ∨ s.flags ≠ 0

/-! ## Notices (chapter 11) -/

/-- R173: NEXT-NOTICE hands over the head record with the entry's snapshot and the count left after the refill by the
lowest deferred entry (R172), or answers EMPTY and changes nothing. -/
def Obligations.NextNoticeHandsOverTheOldest : Prop :=
  (∀ (ops : List Byte) (s : State), s.notices = [] → exec (.nextNotice ops) s = .next (withReply s ops s [0x01])) ∧
  ∀ (ops : List Byte) (s : State) (n : NoticeRecord) (rest : List NoticeRecord), s.notices = n :: rest →
    ∃ (q : List NoticeRecord) (es : Vector Entry 128),
      exec (.nextNotice ops) s = .next (withReply s ops { s with notices := q, entries := es }
        ([0x00, entryByte n.entry] ++ bytes16 n.reasons.toNat
          ++ [(s.rt n.entry).role.code, mirrorCode (s.rt n.entry).mirror, (s.rt n.entry).generation,
            (s.rt n.entry).version, BitVec.ofNat 8 q.length])) ∧
      ((∀ i, (s.rt i).deferred = none) → q = rest ∧ es = s.entries) ∧
      ∀ i d, (s.rt i).deferred = some d → (∀ j, j < i → (s.rt j).deferred = none) →
        q = rest ++ [⟨i, d⟩] ∧ es = s.entries.set i ⟨s.cfg i, { s.rt i with deferred := none }⟩

/-- R169: a posting joins the entry's record, or its deferred reasons, or appends a record below 32, or sets the
deferred mark and DEFERRED; and it keeps the law of the queue. -/
def Obligations.PostingFollowsTheFourCases : Prop :=
  ∀ (s : State) (i : EntryIx) (rs : ReasonSet), rs ≠ 0 →
    ((∃ n ∈ s.notices, n.entry = i) → post s i rs = { s with
      notices := s.notices.map fun n => if n.entry = i then ⟨i, n.reasons ||| rs⟩ else n }) ∧
    ((∀ n ∈ s.notices, n.entry ≠ i) →
      (∀ d, (s.rt i).deferred = some d → post s i rs = { s with
        entries := s.entries.set i ⟨s.cfg i, { s.rt i with deferred := some (d ||| rs) }⟩ }) ∧
      ((s.rt i).deferred = none → s.notices.length < 32 → post s i rs = { s with
        notices := s.notices ++ [⟨i, rs⟩] }) ∧
      ((s.rt i).deferred = none → 32 ≤ s.notices.length → post s i rs = { s with
        entries := s.entries.set i ⟨s.cfg i, { s.rt i with deferred := some rs }⟩
        flags := s.flags ||| 0x20 })) ∧
    (noticeLaw s → noticeLaw (post s i rs))

/-! ## Commands on one entry (chapters 3, 4, 6 and 7) -/

/-- R67, R83: an accepted WRITE stores the value, advances the version, raises PUBLISH with count 0 where ON-WRITE or
required receivers call for it, opens a delivery where there are required receivers, and reports the version. That the
storage past the value's length is left as it is, is the model's choice (log entry 1). -/
def Obligations.WriteStoresAndAdvances : Prop :=
  ∀ (s : State) (i : EntryIx) (value extra : List Byte), (s.cfg i).role ≠ .unused → (s.rt i).role = .publisher →
    (s.lifecycle = .joining ∨ s.lifecycle = .online ∨ s.lifecycle = .leaving) →
    (s.cfg i).length ≤ 12 → value.length = (s.cfg i).length →
    ∃ storage : Vector Byte 12, storage.toList = value ++ (s.rt i).storage.toList.drop (s.cfg i).length ∧
      exec (.write (entryByte i :: (value ++ extra))) s = .next (withReply s (entryByte i :: (value ++ extra))
        { s with entries := s.entries.set i ⟨s.cfg i, { s.rt i with
            storage := storage
            version := (s.rt i).version + 1
            pending := { (s.rt i).pending with
              publish := if (s.cfg i).onWrite = true ∨ (s.cfg i).required ≠ 0 then some 0
                else (s.rt i).pending.publish }
            delivery := if (s.cfg i).required ≠ 0 then some ⟨.opened, (s.rt i).version + 1, 0, 0, 0⟩
              else (s.rt i).delivery }⟩ }
        [0x00, (s.rt i).version + 1])

/-- R68: each case in which WRITE is refused, the transport checks first; a refused WRITE changes nothing but the
reply, and bytes beyond the value are ignored. -/
def Obligations.WriteRefusalsChangeNothing : Prop :=
  ∀ s : State, (∀ (b : Byte) (rest : List Byte), 128 ≤ b.toNat →
      exec (.write (b :: rest)) s = .next (withReply s (b :: rest) s [0x08])) ∧
    ∀ (i : EntryIx) (rest : List Byte),
      ((s.cfg i).role = .unused →
        exec (.write (entryByte i :: rest)) s = .next (withReply s (entryByte i :: rest) s [0x08])) ∧
      ((s.cfg i).role ≠ .unused → rest.length < (s.cfg i).length →
        exec (.write (entryByte i :: rest)) s = .next (withReply s (entryByte i :: rest) s [0x07])) ∧
      ((s.cfg i).role ≠ .unused → (s.cfg i).length ≤ rest.length →
        ((s.rt i).role = .yielding ∨ (s.rt i).role = .subscriber ∨ (s.rt i).role = .claiming
          ∨ s.lifecycle = .configuring ∨ s.lifecycle = .halted) →
        exec (.write (entryByte i :: rest)) s = .next (withReply s (entryByte i :: rest) s [0x03])) ∧
      ((s.cfg i).length ≤ rest.length → ∀ t,
        exec (.write (entryByte i :: rest.take (s.cfg i).length)) s = .next t →
        exec (.write (entryByte i :: rest)) s = .next { t with shiftedOut := shiftOut s.reply (rest.length + 2) })

/-- R60: HOLD on a mirror sets the held mark and starts the hold timer anew, in every lifecycle but HALTED; elsewhere it
is refused. Where no SET-STATION has been accepted, the duration is a free value from 1 to 65535 ms (R156's bound; log
entry 3, the model's choice). -/
def Obligations.HoldFreezesAMirror : Prop :=
  ∀ (s : State) (i : EntryIx) (rest : List Byte), (s.cfg i).role ≠ .unused →
    (((s.rt i).role = .subscriber ∨ (s.rt i).role = .claiming) → s.lifecycle ≠ .halted →
      (∀ p, s.params = some p → exec (.hold (entryByte i :: rest)) s = .next (withReply s (entryByte i :: rest)
        { s with entries := s.entries.set i ⟨s.cfg i, { s.rt i with
            held := true, holdTimer := some ⟨s.time, p.hold⟩ }⟩ } [0x00])) ∧
      (s.params = none → ∃ d : Nat, 1 ≤ d ∧ d ≤ 65535 ∧ exec (.hold (entryByte i :: rest)) s = .next (withReply s (entryByte i :: rest)
        { s with
          draws := s.draws + 1
          entries := s.entries.set i ⟨s.cfg i, { s.rt i with held := true, holdTimer := some ⟨s.time, d⟩ }⟩ }
        [0x00]))) ∧
    ((((s.rt i).role ≠ .subscriber ∧ (s.rt i).role ≠ .claiming) ∨ s.lifecycle = .halted) →
      exec (.hold (entryByte i :: rest)) s = .next (withReply s (entryByte i :: rest) s [0x03]))

/-- R61: RELEASE clears the mark and stops the timer of a held mirror with no reason posted, is taken and changes
nothing on one that is not held, is refused elsewhere; and a frame deferred before it is not taken again. -/
def Obligations.ReleaseEndsTheHold : Prop :=
  (∀ (s : State) (i : EntryIx) (rest : List Byte), (s.cfg i).role ≠ .unused →
    (((s.rt i).role = .subscriber ∨ (s.rt i).role = .claiming) → s.lifecycle ≠ .halted →
      ((s.rt i).held = true → exec (.release (entryByte i :: rest)) s = .next (withReply s (entryByte i :: rest)
        { s with entries := s.entries.set i ⟨s.cfg i, { s.rt i with held := false, holdTimer := none }⟩ } [0x00])) ∧
      ((s.rt i).held = false → exec (.release (entryByte i :: rest)) s
        = .next (withReply s (entryByte i :: rest) s [0x00]))) ∧
    ((((s.rt i).role ≠ .subscriber ∧ (s.rt i).role ≠ .claiming) ∨ s.lifecycle = .halted) →
      exec (.release (entryByte i :: rest)) s = .next (withReply s (entryByte i :: rest) s [0x03]))) ∧
  ∀ (t : State) (v : VerdictRecord), v.verdict = .defer → applyVerdict t v = t

/-- R97: the PULL command merges, adds a record in WAITING and raises PULL, or finds the table full; in another role or
in CONFIGURING and HALTED it is refused. -/
def Obligations.PullCommandAddsOrMerges : Prop :=
  ∀ (s : State) (i : EntryIx) (rest : List Byte), (s.cfg i).role ≠ .unused →
    ((s.rt i).role = .subscriber → (s.lifecycle = .joining ∨ s.lifecycle = .online ∨ s.lifecycle = .leaving) →
      ((∃ p ∈ s.pulls, p.entry = i) →
        exec (.pull (entryByte i :: rest)) s = .next (withReply s (entryByte i :: rest) s [0x00])) ∧
      ((∀ p ∈ s.pulls, p.entry ≠ i) → s.pulls.length < 8 →
        exec (.pull (entryByte i :: rest)) s = .next (withReply s (entryByte i :: rest) { s with
          pulls := s.pulls ++ [⟨i, .waiting, 0, none, false, false⟩]
          entries := s.entries.set i ⟨s.cfg i, { s.rt i with
            pending := { (s.rt i).pending with pull := true } }⟩ } [0x00])) ∧
      ((∀ p ∈ s.pulls, p.entry ≠ i) → 8 ≤ s.pulls.length →
        exec (.pull (entryByte i :: rest)) s = .next (withReply s (entryByte i :: rest) s [0x02]))) ∧
    (((s.rt i).role ≠ .subscriber ∨ s.lifecycle = .configuring ∨ s.lifecycle = .halted) →
      exec (.pull (entryByte i :: rest)) s = .next (withReply s (entryByte i :: rest) s [0x03]))

/-- R96, R100, R103, R105: a record's removal withdraws its pending PULL and hands the free record to the lowest entry
that carries the pull-wanted mark, whose PULL is raised; without a record nothing happens. -/
def Obligations.PullRemovalServesTheLowestMark : Prop :=
  ∀ (s : State) (i : EntryIx),
    ((∀ p ∈ s.pulls, p.entry ≠ i) → removePull s i = s) ∧
    ((∃ p ∈ s.pulls, p.entry = i) → ∀ u : State, u = { s with
        pulls := s.pulls.filter fun p => decide (p.entry ≠ i)
        entries := s.entries.set i ⟨s.cfg i, { s.rt i with pending := { (s.rt i).pending with pull := false } }⟩ } →
      ((∀ j, (s.rt j).pullWanted = false) → removePull s i = u) ∧
      ∀ j, (s.rt j).pullWanted = true → (∀ k, k < j → (s.rt k).pullWanted = false) →
        removePull s i = { u with
          pulls := u.pulls ++ [⟨j, .waiting, 0, none, false, false⟩]
          entries := u.entries.set j ⟨u.cfg j, { u.rt j with
            pullWanted := false, pending := { (u.rt j).pending with pull := true } }⟩ })

/-- R110, R112, R18: the CLAIM command takes an unheld movable SUBSCRIBER into CLAIMING with its kind set from the
mirror state and its timer started; elsewhere it is refused. -/
def Obligations.ClaimCommandStartsAClaim : Prop :=
  ∀ (s : State) (i : EntryIx) (rest : List Byte), (s.cfg i).role ≠ .unused →
    ((s.cfg i).movable = true → (s.rt i).role = .subscriber → (s.rt i).held = false →
      (s.lifecycle = .joining ∨ s.lifecycle = .online ∨ s.lifecycle = .leaving) → ∀ p, s.params = some p →
      ∀ u, u = removePull s i →
      exec (.claim (entryByte i :: rest)) s = .next (withReply s (entryByte i :: rest) { u with
        entries := u.entries.set i ⟨u.cfg i, { u.rt i with
          role := .claiming
          claim := some {
            kind := (match (s.rt i).mirror with
              | some .fresh | some .stale => .normal
              | some .empty | some .orphaned | none => .adopt)
            frameMark := false }
          claimTimer := some ⟨s.time, p.claim⟩
          freshTimer := none, pullWanted := false
          pending := { (u.rt i).pending with claim := true } }⟩ } [0x00])) ∧
    (((s.cfg i).movable = false ∨ (s.rt i).role ≠ .subscriber ∨ (s.rt i).held = true
        ∨ s.lifecycle = .configuring ∨ s.lifecycle = .halted) →
      exec (.claim (entryByte i :: rest)) s = .next (withReply s (entryByte i :: rest) s [0x03]))

/-! ## Configuration and lifecycle commands (chapters 1, 9 and 10) -/

/-- R157, R187: SET-STATION replaces all seven parameters in CONFIGURING when every operand is in its range, and stores
nothing otherwise. -/
def Obligations.SetStationReplacesTheParameters : Prop :=
  ∀ (s : State) (ops : List Byte), 11 ≤ ops.length →
    (s.lifecycle ≠ .configuring → exec (.setStation ops) s = .next (withReply s ops s [0x03])) ∧
    (s.lifecycle = .configuring → stationOutOfRange ops →
      exec (.setStation ops) s = .next (withReply s ops s [0x04])) ∧
    (s.lifecycle = .configuring → ¬ stationOutOfRange ops →
      ∃ p : StationParams, exec (.setStation ops) s = .next (withReply s ops { s with params := some p } [0x00]) ∧
        p.station.val = (byteAt ops 1).toNat ∧
        (byteAt ops 2).toNat = (match p.rate with | .kbit100 => 0 | .kbit200 => 1 | .kbit400 => 2 | .kbit800 => 3) ∧
        p.announce = word16At ops 3 ∧ p.window = word16At ops 5 ∧ p.claim = word16At ops 7 ∧
        p.pull = word16At ops 9 ∧ p.hold = (byteAt ops 11).toNat)

/-- R158, R188, R5, R6: the checks of SET-ITEM past the transport ones in their order, and what an accepted one stores:
every field as the operands say or, where the entry does not carry it, zero; the runtime part at its reset values. R172:
the entry's notice record goes, and the lowest entry with deferred reasons enters the queue with it. The zero bits and the
entry byte of the reply are log entries 23 and 29, the storage past a value's length log entry 1: the model's choices. -/
def Obligations.SetItemChecksAndStores : Prop :=
  (∀ (s : State) (i : EntryIx) (rest : List Byte),
    (entryByte i :: rest).length ≥ itemBytesNeeded (entryByte i :: rest) → ∀ ops, ops = entryByte i :: rest →
    (s.lifecycle ≠ .configuring → exec (.setItem ops) s = .next (withReply s ops s [0x03])) ∧
    (s.lifecycle = .configuring → itemOutOfRange ops → exec (.setItem ops) s = .next (withReply s ops s [0x04])) ∧
    (s.lifecycle = .configuring → ¬ itemOutOfRange ops → (byteAt ops 2).toNat ≠ 0 →
      (∃ j, j ≠ i ∧ (s.cfg j).role ≠ .unused ∧ (s.cfg j).key.toNat = word16At ops 3) →
      exec (.setItem ops) s = .next (withReply s ops s [0x04])) ∧
    (s.lifecycle = .configuring → ¬ itemOutOfRange ops →
      ((byteAt ops 2).toNat = 0 ∨ ∀ j, j ≠ i → (s.cfg j).role ≠ .unused → (s.cfg j).key.toNat ≠ word16At ops 3) →
      ∃ c : ItemConfig, exec (.setItem ops) s = .next (withReply s ops
          (removeNotice { s with entries := s.entries.set i ⟨c, resetRuntime c⟩ } i) (itemReply i c)) ∧
        ((byteAt ops 2).toNat = 0 → c = .unused) ∧
        ((byteAt ops 2).toNat ≠ 0 → c.stored ∧
          c.role = (if (byteAt ops 2).toNat = 1 then .publisher else .subscriber) ∧
          c.key.toNat = word16At ops 3 ∧ c.cls.byte = byteAt ops 5 ∧ c.length = (byteAt ops 6).toNat ∧
          c.movable = (byteAt ops 7).getLsbD 0 ∧
          (c.role = .publisher ∨ c.movable = true →
            c.onWrite = (byteAt ops 7).getLsbD 1 ∧ c.periodic = (byteAt ops 7).getLsbD 2 ∧
            (c.periodic = true → c.period = word16At ops 8) ∧ c.inhibit = word16At ops 10 ∧
            c.required = word32At ops 12 ∧ (c.required ≠ 0 → c.attemptLimit = (byteAt ops 16).toNat)) ∧
          (c.role = .subscriber ∨ c.movable = true →
            c.freshness = word16At ops 17 ∧ c.autoPull = (byteAt ops 7).getLsbD 3) ∧
          (c.role = .publisher → c.initial = (ops.drop 18).take c.length)))) ∧
  ∀ (u : State) (i : EntryIx),
    ((∀ n ∈ u.notices, n.entry ≠ i) → removeNotice u i = u) ∧
    ((∃ n ∈ u.notices, n.entry = i) → ∀ q, q = (u.notices.filter fun n => decide (n.entry ≠ i)) →
      ((∀ j, (u.rt j).deferred = none) → removeNotice u i = { u with notices := q }) ∧
      ∀ j d, (u.rt j).deferred = some d → (∀ k, k < j → (u.rt k).deferred = none) →
        removeNotice u i = { u with
          notices := q ++ [⟨j, d⟩]
          entries := u.entries.set j ⟨u.cfg j, { u.rt j with deferred := none }⟩ })

/-- Sections 1.3, 10.3 and 12.3: a configuration part in the form SET-ITEM stores, sent in the operand layout that
SET-ITEM's own reply has, is stored as it is and reported back: no bit of the layout is dropped. That bits 4 to 7 of the
options byte of the reply are 0 is the model's reading (log entry 23). -/
def Obligations.SetItemReadsBackItsReply : Prop :=
  ∀ (s : State) (i : EntryIx) (c : ItemConfig) (extra : List Byte), c.stored → s.lifecycle = .configuring →
    (∀ j, j ≠ i → (s.cfg j).role ≠ .unused → (s.cfg j).key ≠ c.key) →
    (itemReply i c).length = 19 + c.length ∧
    ∃ t, exec (.setItem ((itemReply i c).tail ++ extra)) s
        = .next (withReply s ((itemReply i c).tail ++ extra) t (itemReply i c)) ∧ t.cfg i = c

/-- R159, R189: the four checks of START in their order, the last two entry by entry in ascending index, and the reply
of each; a failed START changes nothing but the reply. -/
def Obligations.StartChecksInOrder : Prop :=
  ∀ (s : State) (ops : List Byte),
    (s.lifecycle ≠ .configuring → exec (.start ops) s = .next (withReply s ops s [0x03])) ∧
    (s.lifecycle = .configuring →
      (s.params = none → exec (.start ops) s = .next (withReply s ops s [0x05, 0x01, 0xFF])) ∧
      ∀ p, s.params = some p →
        (p.window < 3 * p.announce → exec (.start ops) s = .next (withReply s ops s [0x05, 0x02, 0xFF])) ∧
        (3 * p.announce ≤ p.window → ∀ noModes ownReceiver : EntryIx → Prop,
          (∀ i, noModes i ↔ ((s.cfg i).role = .publisher ∨ (s.cfg i).movable = true) ∧
            (s.cfg i).onWrite = false ∧ (s.cfg i).periodic = false) →
          (∀ i, ownReceiver i ↔ (s.cfg i).required.getLsbD p.station.val = true) →
          (∀ i, (noModes i ∨ ownReceiver i) → (∀ j, j < i → ¬ noModes j ∧ ¬ ownReceiver j) →
            (noModes i → exec (.start ops) s = .next (withReply s ops s [0x05, 0x03, entryByte i])) ∧
            (¬ noModes i → exec (.start ops) s = .next (withReply s ops s [0x05, 0x04, entryByte i]))) ∧
          ((∀ i, ¬ noModes i ∧ ¬ ownReceiver i) →
            ∃ t, exec (.start ops) s = .next (withReply s ops t [0x00]) ∧ t.lifecycle = .joining)))

/-- R160: what a START that passes its checks leaves: every entry at its reset values, the requests, the Pull Table,
the roster and the notice queue emptied, the score 0 and GOOD, JOINING with the LIU LISTENING; the flags, the last fault
kind, the parameters and station time are kept. R19: the reset values of an entry, by its configured role. The LIU's
contention status and its mark, recovery and gap counts are log entry 18, the storage past an initial value and all of an unused entry's,
with its generation and version, log entry 1, what stands for the other absent fields log entry 27: the model's choices. -/
def Obligations.StartSetsEveryEntryToReset : Prop :=
  (∀ (s : State) (ops : List Byte) (p : StationParams), s.lifecycle = .configuring → s.params = some p →
    3 * p.announce ≤ p.window →
    (∀ i, ((s.cfg i).role = .publisher ∨ (s.cfg i).movable = true) →
      (s.cfg i).onWrite = true ∨ (s.cfg i).periodic = true) →
    (∀ i, (s.cfg i).required.getLsbD p.station.val = false) →
    exec (.start ops) s = .next (withReply s ops { s with
      entries := Vector.ofFn fun i => ⟨s.cfg i, resetRuntime (s.cfg i)⟩
      announce := none, inFlight := none, verdict := none, pulls := []
      roster := Vector.replicate 32 ⟨.absent, none⟩, announceTimer := none, notices := []
      fcu := ⟨0, .good, 0, s.fcu.lastFault⟩, lifecycle := .joining
      liu := { phase := .listening, sampled := [], contention := .none, fault := none, window := none, markBits := 0
               recovery := 0, joinQuiet := 0, gap := 0 } } [0x00])) ∧
  ∀ c : ItemConfig,
    (c.role = .publisher → c.initial.length ≤ 12 →
      (resetRuntime c).storage.toList = c.initial ++ List.replicate (12 - c.initial.length) 0x00) ∧
    (c.role ≠ .publisher → (resetRuntime c).storage.toList = List.replicate 12 0x00) ∧
    resetRuntime c = {
      role := (match c.role with | .unused => .unused | .publisher => .publisher | .subscriber => .subscriber)
      mirror := (match c.role with | .unused | .publisher => none | .subscriber => some .empty)
      storage := (resetRuntime c).storage, generation := 0x00, version := 0x00, source := none
      held := false, holdTimer := none, freshTimer := none
      pending := { publish := none, pull := false, claim := false, yield := false }
      periodTimer := none, inhibitTimer := none, delivery := none, yield := none, claim := none, claimTimer := none
      pullWanted := false, deferred := none }

/-- R163, R66: STOP while ONLINE and not MUTED enters LEAVING and raises LEAVE over a weaker announce; while MUTED it
halts; elsewhere it is refused. R152: REJOIN while ONLINE and MUTED sets the score to 119, CAUTIOUS, notes STANDING and
RECOVERED and raises JOIN; elsewhere it is refused. -/
def Obligations.StopAndRejoin : Prop :=
  ∀ (s : State) (ops : List Byte),
    (s.lifecycle ≠ .online → exec (.stop ops) s = .next (withReply s ops s [0x03]) ∧
      exec (.rejoin ops) s = .next (withReply s ops s [0x03])) ∧
    (s.lifecycle = .online → s.fcu.standing ≠ .muted →
      exec (.stop ops) s = .next (withReply s ops { s with
        lifecycle := .leaving, announceTimer := none
        announce := some (match s.announce with | some ⟨.leave, n⟩ => ⟨.leave, n⟩ | _ => ⟨.leave, 0⟩)
        entries := Vector.ofFn fun i => ⟨s.cfg i, { s.rt i with periodTimer := none }⟩ } [0x00]) ∧
      exec (.rejoin ops) s = .next (withReply s ops s [0x03])) ∧
    (s.lifecycle = .online → s.fcu.standing = .muted →
      exec (.stop ops) s = .next (withReply s ops (halt s) [0x00]) ∧
      exec (.rejoin ops) s = .next (withReply s ops { s with
        fcu := ⟨119, .cautious, 0, s.fcu.lastFault⟩
        flags := s.flags ||| 0x06
        announce := some (match s.announce with | none | some ⟨.present, _⟩ => ⟨.join, 0⟩ | some a => a)
        liu := { s.liu with phase := if s.liu.phase = .listening then .resting else s.liu.phase } } [0x00]))

/-- R166, R167: RESTART clears the runtime state from any lifecycle and keeps the configuration, the parameters and
station time; full reset clears these too and leaves no reply. The waiting commands and the count of free values are
the model's own and stay (log entries 2 and 11). The LIU's contention status and its mark, recovery and gap counts are log entry 18, the
content of an unused entry log entry 1: the model's choices. -/
def Obligations.RestartAndFullReset : Prop :=
  ∀ s : State,
    (∀ ops : List Byte, exec (.restart ops) s = .next (withReply s ops { s with
      entries := Vector.ofFn fun i => ⟨s.cfg i, resetRuntime (s.cfg i)⟩
      announce := none, inFlight := none, verdict := none, pulls := []
      roster := Vector.replicate 32 ⟨.absent, none⟩, announceTimer := none, notices := [], flags := 0
      fcu := ⟨0, .good, 0, none⟩, lifecycle := .configuring
      liu := { phase := .off, sampled := [], contention := .none, fault := none, window := none, markBits := 0
               recovery := 0, joinQuiet := 0, gap := 0 } } [0x00])) ∧
    ∃ t, exec .fullReset s = .next t ∧ t.lifecycle = .configuring ∧ t.params = none ∧ t.time = 0 ∧ t.reply = none ∧
      (∀ i, t.cfg i = .unused ∧ t.rt i = .unused) ∧ (∀ st, t.record st = ⟨.absent, none⟩) ∧ t.liu.phase = .off ∧
      t.verdict = none ∧ t.announce = none ∧ t.inFlight = none ∧ t.pulls = [] ∧ t.announceTimer = none ∧
      t.fcu = ⟨0, .good, 0, none⟩ ∧ t.notices = [] ∧ t.flags = 0 ∧ t.attention = false ∧ t.pending = s.pending ∧
      t.draws = s.draws

/-! ## Station time and timers (chapters 1, 3, 4, 6, 8 and 10) -/

/-- R156: station time advances by 1 modulo 2^32 at each tick, in every lifecycle, with nothing else changed; but for
full reset no other command moves it. -/
def Obligations.StationTimeAdvancesByTicksAlone : Prop :=
  (∀ s : State, exec .stationTimeTick s = .next { s with
    time := BitVec.ofNat 32 ((s.time.toNat + 1) % 4294967296) }) ∧
  ∀ (c : Instr) (s t : State), c ≠ .stationTimeTick → c ≠ .fullReset → exec c s = .next t → t.time = s.time

/-- R13: a timer that is stopped, or whose duration has not yet passed, does not run out. That its expiry, commanded all
the same, changes nothing is the model's choice (log entry 7). -/
def Obligations.TimersNotDueDoNotRunOut : Prop :=
  ∀ s : State, ∀ notDue : Timer → Prop,
    (∀ x, notDue x ↔ ∀ r, x = some r → (s.time.toNat + 4294967296 - r.started.toNat) % 4294967296 < r.duration) →
    (∀ i : EntryIx,
      (notDue (s.rt i).periodTimer → exec (.periodTimerExpiry i) s = .next s) ∧
      (notDue (s.rt i).inhibitTimer → exec (.inhibitTimerExpiry i) s = .next s) ∧
      (notDue (s.rt i).freshTimer → exec (.freshnessTimerExpiry i) s = .next s) ∧
      (notDue (s.rt i).holdTimer → exec (.holdTimerExpiry i) s = .next s) ∧
      (notDue (s.rt i).claimTimer → exec (.claimTimerExpiry i) s = .next s) ∧
      ((∀ p ∈ s.pulls, p.entry = i → notDue p.replyTimer) → exec (.pullReplyTimerExpiry i) s = .next s)) ∧
    (∀ st : Station, notDue (s.record st).silence → exec (.silenceTimerExpiry st) s = .next s) ∧
    (notDue s.announceTimer → exec .ownAnnounceTimerExpiry s = .next s)

/-- R69, R70, R62: what the running out of a period, an inhibit and a hold timer does, at the millisecond it is due or
later (the later is log entry 15, the model's choice). -/
def Obligations.PeriodInhibitAndHoldTimersRunOut : Prop :=
  ∀ (s : State) (i : EntryIx) (r : Running),
    r.duration ≤ (s.time.toNat + 4294967296 - r.started.toNat) % 4294967296 →
    ((s.rt i).periodTimer = some r → (s.rt i).role = .publisher →
      exec (.periodTimerExpiry i) s = .next { s with entries := s.entries.set i ⟨s.cfg i, { s.rt i with
        periodTimer := some ⟨s.time, (s.cfg i).period⟩
        pending := { (s.rt i).pending with
          publish := some (match (s.rt i).pending.publish with | some n => n | none => 0) } }⟩ }) ∧
    ((s.rt i).inhibitTimer = some r →
      exec (.inhibitTimerExpiry i) s = .next { s with entries := s.entries.set i ⟨s.cfg i, { s.rt i with
        inhibitTimer := none }⟩ }) ∧
    ((s.rt i).holdTimer = some r →
      exec (.holdTimerExpiry i) s = .next (post { s with entries := s.entries.set i ⟨s.cfg i, { s.rt i with
        held := false, holdTimer := none }⟩ } i Reason.holdExpired.alone))

/-- R58, R98: the freshness timer makes the mirror STALE, posts STALE and asks for a pull where auto-pull is configured.
R112, R18: the claim timer ends the claim: SUBSCRIBER again with the mirror kept, CLAIM-TIMEOUT posted, the freshness
timer started afresh at a FRESH mirror, an auto-pull asked for at a STALE or ORPHANED one. R98: what an auto-pull request
does, by the role, the record held and the free records. Nothing else changes. Each runs out at the millisecond it is due
or later (the later is log entry 15, the model's choice). -/
def Obligations.FreshnessAndClaimTimersRunOut : Prop :=
  (∀ (s : State) (i : EntryIx) (r : Running), (s.rt i).freshTimer = some r → (s.rt i).role = .subscriber →
    r.duration ≤ (s.time.toNat + 4294967296 - r.started.toNat) % 4294967296 →
    ∀ u, u = post { s with entries := s.entries.set i ⟨s.cfg i, { s.rt i with
      mirror := some .stale, freshTimer := none }⟩ } i Reason.stale.alone →
    exec (.freshnessTimerExpiry i) s = .next (if (s.cfg i).autoPull = true then takeAutoPull u i else u)) ∧
  (∀ (s : State) (i : EntryIx) (r : Running), (s.rt i).claimTimer = some r →
    r.duration ≤ (s.time.toNat + 4294967296 - r.started.toNat) % 4294967296 →
    ∀ u, u = post { s with entries := s.entries.set i ⟨s.cfg i, { s.rt i with
      role := .subscriber, claim := none, claimTimer := none, pullWanted := false
      pending := { (s.rt i).pending with claim := false }
      freshTimer := if (s.rt i).mirror = some .fresh then
          (if (s.cfg i).freshness = 0 then none else some ⟨s.time, (s.cfg i).freshness⟩)
        else (s.rt i).freshTimer }⟩ } i Reason.claimTimeout.alone →
    exec (.claimTimerExpiry i) s = .next (
      if (s.cfg i).autoPull = true ∧ ((s.rt i).mirror = some .stale ∨ (s.rt i).mirror = some .orphaned)
      then takeAutoPull u i else u)) ∧
  ∀ (u : State) (i : EntryIx),
    ((u.rt i).role ≠ .subscriber ∨ (∃ p ∈ u.pulls, p.entry = i) → takeAutoPull u i = u) ∧
    ((u.rt i).role = .subscriber → (∀ p ∈ u.pulls, p.entry ≠ i) →
      (u.pulls.length < 8 → takeAutoPull u i = { u with
        pulls := u.pulls ++ [⟨i, .waiting, 0, none, false, false⟩]
        entries := u.entries.set i ⟨u.cfg i, { u.rt i with pending := { (u.rt i).pending with pull := true } }⟩ }) ∧
      (8 ≤ u.pulls.length → takeAutoPull u i = { u with
        entries := u.entries.set i ⟨u.cfg i, { u.rt i with pullWanted := true }⟩ }))

/-- R102: the reply timer of a record: below 3 attempts the record waits again with PULL raised; at 3 it is removed, as
the removal does it, with PULL-UNANSWERED. R137, R66: the own announce timer raises a PRESENT, which a present announce
of any type absorbs, and while ONLINE starts again with the announce interval. Each runs out at the millisecond it is due
or later (the later is log entry 15, the model's choice). -/
def Obligations.ReplyAndAnnounceTimersRunOut : Prop :=
  (∀ (s : State) (p : PullRecord) (r : Running), p ∈ s.pulls → (s.pulls.map (·.entry)).Nodup →
     p.replyTimer = some r → r.duration ≤ (s.time.toNat + 4294967296 - r.started.toNat) % 4294967296 →
     (p.attempts < 3 → exec (.pullReplyTimerExpiry p.entry) s = .next { s with
       pulls := s.pulls.map fun q => if q.entry = p.entry then { p with phase := .waiting, replyTimer := none } else q
       entries := s.entries.set p.entry ⟨s.cfg p.entry, { s.rt p.entry with
         pending := { (s.rt p.entry).pending with pull := true } }⟩ }) ∧
     (3 ≤ p.attempts → exec (.pullReplyTimerExpiry p.entry) s
       = .next (post (removePull s p.entry) p.entry Reason.pullUnanswered.alone))) ∧
  ∀ (s : State) (r : Running) (p : StationParams), s.announceTimer = some r → s.params = some p →
    r.duration ≤ (s.time.toNat + 4294967296 - r.started.toNat) % 4294967296 →
    exec .ownAnnounceTimerExpiry s = .next { s with
      announce := some (match s.announce with | some a => a | none => ⟨.present, 0⟩)
      announceTimer := if s.lifecycle = .online then some ⟨s.time, p.announce⟩ else some r }

/-! ## The roster (chapter 8) -/

/-- R134: orphaning reaches exactly the FRESH and STALE mirrors sourced from the station: ORPHANED with the reason
posted, the freshness timer stopped, a claim kind ADOPT, an auto-pull asked for at a SUBSCRIBER that has it configured;
source, arrival, value, counters, hold and role stay; every entry not reached is left as it is, with nothing posted for
it. R170: the postings are taken in ascending entry index. R98: an auto-pull merges into a record held, gets a record with
PULL raised below 8 records, and else the pull-wanted mark; which of them get the free records is free (log entry 5, the
model's choice). -/
def Obligations.OrphaningReachesTheMirrorsOfAStation : Prop :=
  ∀ (s : State) (st : Station) (t : State), t = orphan s st →
    ∀ hit : EntryIx → Bool, (∀ i, hit i = true ↔ ((s.rt i).role = .subscriber ∨ (s.rt i).role = .claiming)
      ∧ ((s.rt i).mirror = some .fresh ∨ (s.rt i).mirror = some .stale)
      ∧ (s.rt i).source.map (·.station) = some st) →
    t = { s with entries := t.entries, notices := t.notices, flags := t.flags, pulls := t.pulls, draws := t.draws } ∧
    (∀ u, u = ((List.finRange 128).filter hit).foldl (fun x i => post x i Reason.orphaned.alone) s →
      t.notices = u.notices ∧ t.flags = u.flags ∧ ∀ i, (t.rt i).deferred = (u.rt i).deferred) ∧
    (∃ added, t.pulls = s.pulls ++ added ∧ (added = [] ∨ t.pulls.length ≤ 8) ∧ (added.map (·.entry)).Nodup ∧
      ∀ p ∈ added, hit p.entry = true ∧ (s.rt p.entry).role = .subscriber ∧ (s.cfg p.entry).autoPull = true ∧
        (∀ q ∈ s.pulls, q.entry ≠ p.entry) ∧ p = ⟨p.entry, .waiting, 0, none, false, false⟩) ∧
    ∀ i, t.cfg i = s.cfg i ∧
      if hit i = true then
        t.rt i = { s.rt i with
          mirror := some .orphaned, freshTimer := none
          claim := (s.rt i).claim.map fun c => ⟨.adopt, c.frameMark⟩
          deferred := (t.rt i).deferred, pullWanted := (t.rt i).pullWanted
          pending := { (s.rt i).pending with pull := (t.rt i).pending.pull } } ∧
        awaits t i Reason.orphaned.alone ∧
        (if (s.rt i).role = .subscriber ∧ (s.cfg i).autoPull = true ∧ ∀ p ∈ s.pulls, p.entry ≠ i then
            ((∃ p ∈ t.pulls, p.entry = i) ∧ (t.rt i).pending.pull = true ∧
              (t.rt i).pullWanted = (s.rt i).pullWanted) ∨
            ((∀ p ∈ t.pulls, p.entry ≠ i) ∧ 8 ≤ t.pulls.length ∧ (t.rt i).pullWanted = true ∧
              (t.rt i).pending.pull = (s.rt i).pending.pull)
          else (t.rt i).pullWanted = (s.rt i).pullWanted ∧ (t.rt i).pending.pull = (s.rt i).pending.pull)
      else t.rt i = s.rt i ∧
        (t.notices.filter fun n => decide (n.entry = i)) = s.notices.filter fun n => decide (n.entry = i)

/-- R132, R136, R121: the silence timer of another station makes its record SILENT, orphans what is mirrored from it, and
fails every yield to it, in ascending index (R170), whichever of the two is taken first (log entry 6, the model's choice);
an entry that neither reaches is left as it is, with nothing posted for it. The timer runs out at the millisecond it is
due or later (the later is log entry 15, the model's choice). -/
def Obligations.SilenceTimerLosesTheStation : Prop :=
  ∀ (s : State) (st : Station) (r : Running), (s.record st).silence = some r → st ≠ s.own →
    r.duration ≤ (s.time.toNat + 4294967296 - r.started.toNat) % 4294967296 →
    ∀ hit yields : EntryIx → Bool,
    (∀ i, hit i = true ↔ ((s.rt i).role = .subscriber ∨ (s.rt i).role = .claiming)
      ∧ ((s.rt i).mirror = some .fresh ∨ (s.rt i).mirror = some .stale)
      ∧ (s.rt i).source.map (·.station) = some st) →
    (∀ i, yields i = true ↔ (s.rt i).role = .yielding ∧ (s.rt i).yield.map (·.target) = some st) →
    ∃ t u : State, exec (.silenceTimerExpiry st) s = .next t ∧
      u = { s with roster := s.roster.set st ⟨.silent, none⟩, draws := u.draws } ∧
      (u.draws = s.draws ∨ u.draws = s.draws + 1) ∧
      (t = ((List.finRange 128).filter yields).foldl failYield (orphan u st) ∨
        t = orphan (((List.finRange 128).filter yields).foldl failYield u) st) ∧
      t.record st = ⟨.silent, none⟩ ∧ (∀ x, x ≠ st → t.record x = s.record x) ∧
      t = { s with entries := t.entries, notices := t.notices, flags := t.flags, pulls := t.pulls, roster := t.roster,
                   draws := t.draws } ∧
      (∃ added, t.pulls = s.pulls ++ added ∧ ∀ p ∈ added, hit p.entry = true ∧ (s.rt p.entry).role = .subscriber ∧
        (s.cfg p.entry).autoPull = true ∧ p = ⟨p.entry, .waiting, 0, none, false, false⟩) ∧
      ∀ i, t.cfg i = s.cfg i ∧
        (hit i = true →
          (t.rt i).mirror = some .orphaned ∧ (t.rt i).freshTimer = none ∧ awaits t i Reason.orphaned.alone) ∧
        (yields i = true →
          t.rt i = { s.rt i with
            role := .publisher, yield := none, deferred := (t.rt i).deferred
            pending := { (s.rt i).pending with publish := some 0, yield := false }
            periodTimer := if (s.cfg i).periodic = true ∧ s.lifecycle = .online then some ⟨s.time, (s.cfg i).period⟩
              else none } ∧
          awaits t i Reason.yieldFailed.alone) ∧
        (hit i = false → yields i = false → t.rt i = s.rt i ∧
          (t.notices.filter fun n => decide (n.entry = i)) = s.notices.filter fun n => decide (n.entry = i))

/-- R131, R133: the evidence of a completed frame makes PRESENT, with the silence timer started, exactly the other
stations that answered in its window or sent it, and changes nothing else; an announce's type takes the place of its
sender's evidence. A JOIN and a LEAVE orphan what is mirrored from the sender, a LEAVE fails the yields to it as well, in
ascending index (R170), whichever of the two is taken first (log entry 6, the model's choice); a PRESENT does neither. -/
def Obligations.EvidenceMakesPresent : Prop :=
  ∀ (s : State) (w : Window) (p : StationParams), s.params = some p →
    (∀ source : Option Station, takeEvidence s source w = { s with
      roster := Vector.ofFn fun st =>
        if st ≠ p.station ∧ (source = some st ∨ w[st] ≠ .absent) then ⟨.present, some ⟨s.time, p.window⟩⟩
        else s.record st }) ∧
    ∀ (sender : Station) (type : AnnounceType), sender ≠ p.station →
      (∀ heard : State, heard = { s with
          roster := Vector.ofFn fun st =>
            if st = sender then
              (match type with | .join | .present => ⟨.present, some ⟨s.time, p.window⟩⟩ | .leave => ⟨.absent, none⟩)
            else if st ≠ p.station ∧ w[st] ≠ .absent then ⟨.present, some ⟨s.time, p.window⟩⟩
            else s.record st } →
        (type = .present → hearAnnounce s sender type w = heard) ∧
        (type = .join → hearAnnounce s sender type w = orphan heard sender) ∧
        (type = .leave → ∀ yields : EntryIx → Bool,
          (∀ i, yields i = true ↔ (s.rt i).role = .yielding ∧ (s.rt i).yield.map (·.target) = some sender) →
          ∃ u : State, u = { heard with draws := u.draws } ∧ (u.draws = s.draws ∨ u.draws = s.draws + 1) ∧
            (hearAnnounce s sender type w = ((List.finRange 128).filter yields).foldl failYield (orphan u sender) ∨
              hearAnnounce s sender type w
                = orphan (((List.finRange 128).filter yields).foldl failYield u) sender))) ∧
      ∀ st, (hearAnnounce s sender type w).record st
        = if st = sender then
            (match type with | .join | .present => ⟨.present, some ⟨s.time, p.window⟩⟩ | .leave => ⟨.absent, none⟩)
          else if st ≠ p.station ∧ w[st] ≠ .absent then ⟨.present, some ⟨s.time, p.window⟩⟩
          else s.record st

/-! ## Medium access (chapters 2, 4 and 10) -/

/-- R25, R40, R162: in RESTING the line is free when the count reaches 4 bit times while GOOD and 16 while CAUTIOUS; a
dominant bit between frames is another station's start bit; the join quiet of 200 bit times takes a JOINING station
ONLINE with the effects of that entry. That the commands carry a number of bit times, which is added to the counts, is the
model's choice (log entry 14), and so is that it is added where the line is not yet free or the quiet not yet reached (log
entry 7). -/
def Obligations.GapsStartBitsAndJoinQuiet : Prop :=
  (∀ (n : Nat) (s : State), s.liu.phase = .resting → s.fcu.standing ≠ .muted →
    exec (.lineFree n) s = .next { s with liu := { s.liu with
      gap := s.liu.gap + n
      phase := if (if s.fcu.standing = .good then 4 else 16) ≤ s.liu.gap + n then .idle else .resting } }) ∧
  (∀ s : State, (s.liu.phase = .resting ∨ s.liu.phase = .idle ∨ s.liu.phase = .listening) →
    exec .startBitOfAnotherStation s = .next { s with liu := {
      phase := .receiving, sampled := [false], contention := .none, fault := none, window := none, markBits := 0
      recovery := 0, joinQuiet := 0, gap := 0 } }) ∧
  ∀ (n : Nat) (s : State) (p : StationParams), s.lifecycle = .joining → s.liu.phase = .listening →
    s.fcu.standing ≠ .muted → s.params = some p →
    (s.liu.joinQuiet + n < 200 → exec (.joinQuiet n) s = .next { s with liu := { s.liu with
      gap := s.liu.gap + n, joinQuiet := s.liu.joinQuiet + n } }) ∧
    (200 ≤ s.liu.joinQuiet + n → exec (.joinQuiet n) s = .next { s with
      lifecycle := .online
      entries := Vector.ofFn fun i => ⟨s.cfg i, { s.rt i with periodTimer :=
        if (s.rt i).role = .publisher then
          (if (s.cfg i).periodic = true then some ⟨s.time, (s.cfg i).period⟩ else none)
        else (s.rt i).periodTimer }⟩
      roster := s.roster.set p.station ⟨.present, none⟩
      announceTimer := some ⟨s.time, p.announce⟩
      announce := some (match s.announce with | none | some ⟨.present, _⟩ => ⟨.join, 0⟩ | some a => a)
      flags := s.flags ||| 0x01
      liu := { s.liu with
        phase := .resting, gap := s.liu.gap + n, joinQuiet := s.liu.joinQuiet + n } })

/-- R71, R72: the offer is the eligible request with the lowest arbitration value, and there is none only when no
request is eligible; in a station whose tables keep their laws no two requests share a value. -/
def Obligations.OfferIsTheLowestEligible : Prop :=
  ∀ s : State,
    (offer s = none ↔ ∀ q, ¬ isEligible s q) ∧
    (∀ q, offer s = some q → isEligible s q ∧ ∀ q', isEligible s q' → requestValue s q ≤ requestValue s q') ∧
    (keyLaw s → entriesLaw s → (∀ i, configLaw (s.cfg i)) →
      ∀ q q', isEligible s q → isEligible s q' → requestValue s q = requestValue s q' → q = q')

/-- R73, R64, R99, R113: at the start bit the offered request leaves its set and goes into flight with its count and the
content copied from the entry; a PULL and a CLAIM mark their frame. With nothing offered nothing happens (log entry 7,
the model's choice). -/
def Obligations.StartBitCapturesTheOffer : Prop :=
  ∀ (s : State) (p : StationParams), s.liu.phase = .idle → s.inFlight = none → s.params = some p →
    ∀ sending : Liu, sending = { s.liu with
      phase := .sending, sampled := [], contention := .sending, fault := none, window := none, markBits := 0 } →
    (offer s = none → exec .startBitCapture s = .next s) ∧
    (∀ i n, offer s = some (.publish i) → (s.rt i).pending.publish = some n →
      exec .startBitCapture s = .next { s with
        entries := s.entries.set i ⟨s.cfg i, { s.rt i with pending := { (s.rt i).pending with publish := none } }⟩
        inFlight := some ⟨.publish i, n, ⟨(s.cfg i).cls, (s.cfg i).key, p.station,
          .publish (s.rt i).generation (s.rt i).version ((s.rt i).storage.toList.take (s.cfg i).length)⟩, false⟩
        liu := sending }) ∧
    (∀ i y, offer s = some (.yield i) → (s.rt i).yield = some y →
      exec .startBitCapture s = .next { s with
        entries := s.entries.set i ⟨s.cfg i, { s.rt i with pending := { (s.rt i).pending with yield := false } }⟩
        inFlight := some ⟨.yield i, 0, ⟨(s.cfg i).cls, (s.cfg i).key, p.station,
          .yield y.target (s.rt i).generation (s.rt i).version
            ((s.rt i).storage.toList.take (s.cfg i).length)⟩, false⟩
        liu := sending }) ∧
    (∀ i c, offer s = some (.claim i) → (s.rt i).claim = some c →
      exec .startBitCapture s = .next { s with
        entries := s.entries.set i ⟨s.cfg i, { s.rt i with
          pending := { (s.rt i).pending with claim := false }, claim := some ⟨c.kind, true⟩ }⟩
        inFlight := some ⟨.claim i, 0, ⟨(s.cfg i).cls, (s.cfg i).key, p.station,
          .claim (s.rt i).generation (decide (c.kind = .adopt))⟩, false⟩
        liu := sending }) ∧
    (∀ i, offer s = some (.pull i) →
      exec .startBitCapture s = .next { s with
        entries := s.entries.set i ⟨s.cfg i, { s.rt i with pending := { (s.rt i).pending with pull := false } }⟩
        pulls := s.pulls.map fun r => if r.entry = i then { r with onLine := true } else r
        inFlight := some ⟨.pull i, 0, ⟨(s.cfg i).cls, (s.cfg i).key, p.station, .pull⟩, false⟩
        liu := sending }) ∧
    ∀ t n, offer s = some (.announce t) → s.announce = some ⟨t, n⟩ →
      exec .startBitCapture s = .next { s with
        announce := none
        inFlight := some ⟨.announce t, n, ⟨.system, BitVec.ofNat 12 p.station.val, p.station, .announce t⟩, false⟩
        liu := sending }

/-- R39's Drives column, under R40's law: a station that is neither ONLINE nor LEAVING, or is MUTED, drives nothing, nor
does one in OFF, LISTENING, RESTING, RECEIVING or RECOVERING; IDLE drives the start bit when a frame is offered, SENDING
the frame, WINDOW the own slot answer of a receiver (R30, R31) and nothing of a sender, ENDING recessive, ABORTING the
dominant bits of a mark. R28: a sender that samples what it drives goes on to the next bit, and past the last check bit
is in WINDOW. That what is driven is computed and not held is the model's choice (log entry 12), and so is that a
happening's levels may be handed over in parts (log entry 21). -/
def Obligations.EachPhaseDrivesItsColumn : Prop :=
  (∀ (s : State) (p : StationParams), s.params = some p →
    (¬ ((s.lifecycle = .online ∨ s.lifecycle = .leaving) ∧ s.fcu.standing ≠ .muted) → s.drives = true) ∧
    (s.liu.phase = .off ∨ s.liu.phase = .listening ∨ s.liu.phase = .resting ∨ s.liu.phase = .receiving ∨
      s.liu.phase = .ending ∨ s.liu.phase = .recovering → s.drives = true) ∧
    ((s.lifecycle = .online ∨ s.lifecycle = .leaving) → s.fcu.standing ≠ .muted →
      (s.liu.phase = .idle → s.inFlight = none → (s.drives = false ↔ ∃ q, isEligible s q)) ∧
      (∀ fl, s.liu.phase = .sending → s.inFlight = some fl →
        some s.drives = (fl.content.levels ++ [true])[min s.liu.sampled.length fl.content.levels.length]?) ∧
      (s.liu.phase = .window → s.liu.contention = .sending ∨ s.verdict = none → s.drives = true) ∧
      (∀ (v : VerdictRecord) (seen : List Level), s.liu.phase = .window → s.liu.contention ≠ .sending →
        s.verdict = some v → s.liu.sampled = v.frame.levels ++ seen →
        (v.driven = false → s.drives = true) ∧
        (v.driven = true →
          (seen.length = 2 * p.station.val →
            (s.drives = false ↔ v.answer = .seen ∨ v.answer = .taken)) ∧
          (seen.length = 2 * p.station.val + 1 →
            (s.drives = false ↔ v.answer = .taken ∨ v.answer = .busy)) ∧
          (seen.length ≠ 2 * p.station.val → seen.length ≠ 2 * p.station.val + 1 → s.drives = true))) ∧
      (s.liu.phase = .aborting → s.drives = false))) ∧
  ∀ (s : State) (fl : InFlight) (n : Nat), (s.lifecycle = .online ∨ s.lifecycle = .leaving) →
    s.fcu.standing ≠ .muted → s.inFlight = some fl → fl.destroyed = false → s.liu.contention = .sending →
    s.liu.phase = .sending → n < fl.content.levels.length → s.liu.sampled = fl.content.levels.take n →
    exec (.ownFrameOutcome [s.drives]) s = .next { s with liu := { s.liu with
      sampled := fl.content.levels.take (n + 1)
      phase := if n + 1 < fl.content.levels.length then .sending else .window } }

/-! ## Verdicts (chapters 3, 6 and 7) -/

/-- R29, R30, R42: at the last check bit of an allowed frame of another station the verdict is fixed, whatever the key;
the answer is driven exactly in ONLINE and LEAVING while not MUTED; on a frame that bears the own number nothing is
judged. Short of it the levels are sampled in RECEIVING (R39), which is how the model has levels handed over in parts (log
entry 21, its choice); past a source field that shows the own number none are. -/
def Obligations.VerdictIsFixedAtTheLastCheckBit : Prop :=
  ∀ (s : State) (levels : List Level) (f : Frame) (p : StationParams), s.params = some p → f.allowed →
    s.liu.phase = .receiving → s.liu.fault = none →
    (∀ m, m < f.levels.length → s.liu.sampled ++ levels = f.levels.take m → exec (.frameVerdictPoint levels) s = .next
      (if 25 ≤ m ∧ f.source = p.station then s else { s with liu := { s.liu with
        sampled := f.levels.take m
        joinQuiet := if s.lifecycle = .joining then recessiveRun s.liu.joinQuiet levels else s.liu.joinQuiet } })) ∧
    (s.liu.sampled ++ levels = f.levels → f.source ≠ p.station → exec (.frameVerdictPoint levels) s = .next { s with
      verdict := some (verdictOn s f)
      liu := { s.liu with
        phase := .window, sampled := f.levels
        joinQuiet := if s.lifecycle = .joining then recessiveRun s.liu.joinQuiet levels else s.liu.joinQuiet } }) ∧
    (s.liu.sampled ++ levels = f.levels → f.source = p.station → exec (.frameVerdictPoint levels) s = .next s) ∧
    (verdictOn s f).frame = f ∧
    ((verdictOn s f).driven = true ↔
      (s.lifecycle = .online ∨ s.lifecycle = .leaving) ∧ s.fcu.standing ≠ .muted)

/-- R48 to R52 with R2: the verdict on a publication of the right length at a mirror that is not held, row by row of the
table that closes section 3.2. -/
def Obligations.MirrorVerdictsFollowTheTable : Prop :=
  ∀ (s : State) (p : StationParams) (i : EntryIx) (f : Frame) (eff : Station) (g v : Byte) (bytes : List Byte),
    s.params = some p → heldBy s f.key i → ((s.rt i).role = .subscriber ∨ (s.rt i).role = .claiming) →
    (s.rt i).held = false → publication f eff g v bytes → (f.body = .yield eff g v bytes → eff ≠ p.station) →
    bytes.length = (s.cfg i).length →
    (verdictOn s f).entry = some i ∧
    ((s.rt i).mirror = some .empty ∨ (s.rt i).mirror = some .orphaned →
      judged s f = (.accept, .taken, Reason.updated.alone, some eff)) ∧
    ∀ o, ((s.rt i).mirror = some .fresh ∨ (s.rt i).mirror = some .stale) → (s.rt i).source = some o →
      (serialNewer (s.rt i).generation g → judged s f = (.accept, .taken, Reason.updated.alone, some eff)) ∧
      (g ≠ (s.rt i).generation → ¬ serialNewer (s.rt i).generation g → judged s f = (.ignore, .seen, 0, none)) ∧
      (g = (s.rt i).generation → f.source = o.station ∨ eff = o.station →
        (serialNewer (s.rt i).version v → judged s f = (.accept, .taken, Reason.updated.alone, some eff)) ∧
        (v = (s.rt i).version → judged s f = (.refresh, .taken, 0, some eff)) ∧
        (v ≠ (s.rt i).version → ¬ serialNewer (s.rt i).version v → judged s f = (.ignore, .seen, 0, none))) ∧
      (g = (s.rt i).generation → f.source ≠ o.station → eff ≠ o.station →
        (f.source < o.station →
          judged s f = (.accept, .taken, Reason.updated.alone ||| Reason.conflict.alone, some eff)) ∧
        (o.station < f.source → judged s f = (.ignore, .seen, 0, none)))

/-- R44 to R47, R106, R117, R122, R124, R127: the verdict on a frame for a key nobody holds here, on an ANNOUNCE, on a
publication of another length, on a PULL, on a CLAIM, on a YIELD to this station, and on a competing publication; and
what a hold makes of a verdict that would answer TAKEN. That the verdict on an ANNOUNCE has a name is the model's reading
(log entry 19). -/
def Obligations.OtherVerdictsFollowTheTables : Prop :=
  (∀ (s : State) (f : Frame), (∀ j, (s.cfg j).role ≠ .unused → (s.cfg j).key ≠ f.key) →
    (∀ t, f.body ≠ .announce t) → judged s f = (.ignore, .seen, 0, none) ∧ (verdictOn s f).entry = none) ∧
  (∀ (s : State) (f : Frame) (t : AnnounceType), f.body = .announce t →
    judged s f = (.announce, .taken, 0, none) ∧ (verdictOn s f).entry = none) ∧
  ∀ (s : State) (p : StationParams) (i : EntryIx) (f : Frame), s.params = some p → heldBy s f.key i →
    ((∀ t, f.body ≠ .announce t) → (verdictOn s f).entry = some i) ∧
    (∀ eff g v bytes, publication f eff g v bytes → bytes.length ≠ (s.cfg i).length →
      judged s f = (.ignore, .seen, Reason.shape.alone, none)) ∧
    ((s.rt i).held = true → (∀ t, f.body ≠ .announce t) → ∀ u : State,
      u = { s with entries := s.entries.set i ⟨s.cfg i, { s.rt i with held := false }⟩ } →
      ((judged u f).2.1 = .taken → judged s f = (.defer, .busy, 0, none)) ∧
      ((judged u f).2.1 ≠ .taken → judged s f = judged u f)) ∧
    (holdLaw (s.rt i) → f.body = .pull →
      judged s f = (match (s.rt i).role with
        | .publisher => (.serve, .taken, 0, none)
        | .yielding => (.defer, .busy, 0, none)
        | .subscriber | .claiming | .unused => (.ignore, .seen, 0, none))) ∧
    (holdLaw (s.rt i) → ∀ seen adopting, f.body = .claim seen adopting →
      judged s f = (match (s.rt i).role with
        | .publisher => if (s.cfg i).movable = true then (.cede, .taken, 0, none) else (.ignore, .seen, 0, none)
        | .yielding => (.defer, .busy, 0, none)
        | .subscriber | .claiming | .unused => (.ignore, .seen, 0, none))) ∧
    (∀ g v bytes, f.body = .yield p.station g v bytes → bytes.length = (s.cfg i).length →
      ((s.rt i).role = .publisher ∨ (s.rt i).role = .yielding →
        judged s f = (.reassert, .seen, Reason.conflict.alone, none)) ∧
      ((s.rt i).role = .subscriber ∨ (s.rt i).role = .claiming →
        judged s f = (if (s.cfg i).movable = false then (.ignore, .seen, 0, none)
          else if (s.rt i).held = true then (.defer, .busy, 0, none)
          else (.assume, .taken, Reason.ownerGained.alone, none)))) ∧
    (holdLaw (s.rt i) → (s.rt i).role = .publisher ∨ (s.rt i).role = .yielding → ∀ eff g v bytes,
      publication f eff g v bytes → (f.body = .yield eff g v bytes → eff ≠ p.station) →
      bytes.length = (s.cfg i).length → f.source ≠ p.station →
      (serialNewer (s.rt i).generation g ∨ (g = (s.rt i).generation ∧ f.source < p.station) →
        judged s f = (if (s.cfg i).movable = true
          then (.depose, .taken, Reason.ownerLost.alone ||| Reason.conflict.alone, some eff)
          else (.outranked, .seen, Reason.conflict.alone, none))) ∧
      (¬ serialNewer (s.rt i).generation g → (g = (s.rt i).generation → p.station < f.source) →
        judged s f = (.reassert, .seen, Reason.conflict.alone, none)))

/-! ## Completion (chapters 1 to 3 and 6 to 9) -/

/-- R15 to R18, R116: what an entry gives up and takes on when it becomes PUBLISHER from a mirror role, YIELDING,
PUBLISHER by a failed yield, SUBSCRIBER from a publisher role, and SUBSCRIBER again from CLAIMING. -/
def Obligations.RoleChangesSetTheFields : Prop :=
  ∀ (s : State) (i : EntryIx),
    ∀ period : Timer, period = (if (s.cfg i).periodic = true ∧ s.lifecycle = .online
      then some ⟨s.time, (s.cfg i).period⟩ else none) →
    ∀ fresh : Timer, fresh = (if (s.cfg i).freshness = 0 then none else some ⟨s.time, (s.cfg i).freshness⟩) →
    (∀ g v storage u, u = removePull s i → enterPublisher s i g v storage = post { u with
      entries := u.entries.set i ⟨u.cfg i, { u.rt i with
        role := .publisher, mirror := none, source := none, freshTimer := none, held := false, holdTimer := none
        claim := none, claimTimer := none, pullWanted := false, generation := g, version := v, storage := storage
        delivery := none, inhibitTimer := none, periodTimer := period
        pending := { publish := some 0, pull := false, claim := false, yield := false } }⟩ }
      i Reason.ownerGained.alone) ∧
    adopt s i = enterPublisher s i ((s.rt i).generation + 1) (s.rt i).version (s.rt i).storage ∧
    (∀ claimant, enterYielding s i claimant = { s with entries := s.entries.set i ⟨s.cfg i, { s.rt i with
      role := .yielding, yield := some ⟨claimant, 0⟩, periodTimer := none, inhibitTimer := none
      pending := { (s.rt i).pending with publish := none, yield := true } }⟩ }) ∧
    failYield s i = post { s with entries := s.entries.set i ⟨s.cfg i, { s.rt i with
      role := .publisher, yield := none, periodTimer := period
      pending := { (s.rt i).pending with publish := some 0, yield := false } }⟩ } i Reason.yieldFailed.alone ∧
    (∀ source g v storage, enterMirror s i source g v storage = { s with
      entries := s.entries.set i ⟨s.cfg i, { s.rt i with
        role := .subscriber, mirror := some .fresh, source := some ⟨source, s.time⟩, generation := g, version := v
        storage := storage, freshTimer := fresh, yield := none, periodTimer := none, inhibitTimer := none
        delivery := none, held := false, holdTimer := none, pullWanted := false
        pending := { (s.rt i).pending with publish := none, yield := false } }⟩ }) ∧
    ∀ reason u, u = post { s with entries := s.entries.set i ⟨s.cfg i, { s.rt i with
        role := .subscriber, claim := none, claimTimer := none, pullWanted := false
        pending := { (s.rt i).pending with claim := false }
        freshTimer := if (s.rt i).mirror = some .fresh then fresh else (s.rt i).freshTimer }⟩ } i reason.alone →
      endClaim s i reason = (if (s.cfg i).autoPull = true
          ∧ ((s.rt i).mirror = some .stale ∨ (s.rt i).mirror = some .orphaned)
        then takeAutoPull u i else u)

/-- R44, R53 to R57, R103, R111: what IGNORE, DEFER, ACCEPT and REFRESH do at completion, by the role and the mirror
state the entry has then; a frame for a key nobody holds here does nothing to an entry. That the storage past the
payload is left as it is, is the model's choice (log entry 1); that a REFRESH moves the source to the effective source is
R54's word against R11's (log entry 28); that an ACCEPT posts the reasons fixed with it also at an entry orphaned since is
the model's choice (log entry 31). -/
def Obligations.MirrorVerdictsAreApplied : Prop :=
  (∀ (s : State) (v : VerdictRecord), (v.entry = none ∨ v.verdict = .defer → applyVerdict s v = s) ∧
    ∀ i, v.entry = some i → v.verdict = .ignore →
      applyVerdict s v = post s i v.reasons ∧ (v.reasons = 0 → applyVerdict s v = s)) ∧
  ∀ (s : State) (v : VerdictRecord) (i : EntryIx) (eff : Station) (g ver : Byte) (bytes : List Byte),
    v.entry = some i → v.effective = some eff → publication v.frame eff g ver bytes → bytes.length ≤ 12 →
    ∀ renewed : Runtime, renewed = { s.rt i with
      source := some ⟨eff, s.time⟩, mirror := some .fresh
      freshTimer := if (s.rt i).role = .subscriber ∧ (s.cfg i).freshness ≠ 0
        then some ⟨s.time, (s.cfg i).freshness⟩ else none
      claim := (s.rt i).claim.map fun c => ⟨.normal, c.frameMark⟩, pullWanted := false } →
    ((s.rt i).role = .publisher ∨ (s.rt i).role = .yielding → v.verdict = .accept ∨ v.verdict = .refresh →
      applyVerdict s v = s) ∧
    ((s.rt i).role = .subscriber ∨ (s.rt i).role = .claiming →
      ∃ storage : Vector Byte 12, storage.toList = bytes ++ (s.rt i).storage.toList.drop bytes.length ∧
        (v.verdict = .accept → applyVerdict s v = post (removePull { s with
          entries := s.entries.set i ⟨s.cfg i, { renewed with
            storage := storage, generation := g, version := ver }⟩ } i) i v.reasons) ∧
        (v.verdict = .refresh → (s.rt i).mirror = some .orphaned → applyVerdict s v = post (removePull { s with
          entries := s.entries.set i ⟨s.cfg i, { renewed with
            storage := storage, generation := g, version := ver }⟩ } i) i Reason.updated.alone) ∧
        (v.verdict = .refresh → ((s.rt i).mirror = some .fresh ∨ (s.rt i).mirror = some .stale) →
          ∀ u, u = removePull { s with entries := s.entries.set i ⟨s.cfg i, renewed⟩ } i →
          ((s.rt i).mirror = some .stale ∨ (s.rt i).source.map (·.station) ≠ some eff →
            applyVerdict s v = post u i Reason.updated.alone) ∧
          ((s.rt i).mirror = some .fresh → (s.rt i).source.map (·.station) = some eff → applyVerdict s v = u)))

/-- R107, R118, R123, R125 to R127: what the owner-side verdicts do at completion, by the role the entry has then; CEDE
and ASSUME act only where the answer was driven. That the storage past the payload is left as it is, is the model's choice
(log entry 1). -/
def Obligations.OwnerVerdictsAreApplied : Prop :=
  ∀ (s : State) (v : VerdictRecord) (i : EntryIx), v.entry = some i →
    ∀ reraised : State → State, (∀ x, reraised x = if (x.rt i).role = .publisher then { x with
        entries := x.entries.set i ⟨x.cfg i, { x.rt i with pending := { (x.rt i).pending with
          publish := some (match (x.rt i).pending.publish with | some n => n | none => 0) } }⟩ } else x) →
    (v.verdict = .serve → applyVerdict s v = reraised s) ∧
    (v.verdict = .reassert → applyVerdict s v = reraised (post s i v.reasons)) ∧
    (v.verdict = .outranked → applyVerdict s v = post s i v.reasons) ∧
    (∀ seen adopting, v.verdict = .cede → v.frame.body = .claim seen adopting →
      (v.driven = true → (s.rt i).role = .publisher →
        (adopting = false → serialNewer (s.rt i).generation seen →
          applyVerdict s v = post (enterYielding s i v.frame.source) i Reason.conflict.alone) ∧
        (adopting = true ∨ ¬ serialNewer (s.rt i).generation seen →
          applyVerdict s v = enterYielding s i v.frame.source)) ∧
      (v.driven = false ∨ (s.rt i).role ≠ .publisher → applyVerdict s v = s)) ∧
    ∀ eff g ver bytes, publication v.frame eff g ver bytes → bytes.length ≤ 12 →
      ∃ storage : Vector Byte 12, storage.toList = bytes ++ (s.rt i).storage.toList.drop bytes.length ∧
        (v.verdict = .assume →
          (v.driven = true → (s.rt i).role = .subscriber ∨ (s.rt i).role = .claiming →
            applyVerdict s v = enterPublisher s i g ver storage) ∧
          (v.driven = false ∨ ((s.rt i).role ≠ .subscriber ∧ (s.rt i).role ≠ .claiming) →
            applyVerdict s v = s)) ∧
        (v.verdict = .depose → v.effective = some eff →
          ((s.rt i).role = .publisher ∨ (s.rt i).role = .yielding →
            applyVerdict s v = post (enterMirror s i eff g ver storage) i v.reasons) ∧
          ((s.rt i).role ≠ .publisher → (s.rt i).role ≠ .yielding → applyVerdict s v = s))

/-- R33, R25, R161, R137: a clean end field completes the frame: the LIU is between frames with the window kept, and the
verdict, the merge watch, the roster, the score, the announce timer and, in JOINING, Station Control take the completion
(in the order of log entry 8, the model's choice). R39: short of it the levels are sampled, in WINDOW for its 64 bit times
and then in ENDING; that they may be handed over in parts is log entry 21, the model's choice. -/
def Obligations.CompletionIsPresentedToEveryBlock : Prop :=
  ∀ (s : State) (levels whole : List Level) (v : VerdictRecord) (w : Window),
    (s.liu.phase = .window ∨ s.liu.phase = .ending) → s.liu.contention ≠ .sending → s.liu.fault = none →
    s.verdict = some v → v.frame.allowed → whole = v.frame.levels ++ windowLevels w ++ endField →
    ∀ quiet : Nat, quiet = (if s.lifecycle = .joining then recessiveRun s.liu.joinQuiet levels
      else s.liu.joinQuiet) →
    (∀ m, v.frame.levels.length ≤ m → m < whole.length → s.liu.sampled ++ levels = whole.take m →
      exec (.receivedFrameCompletion levels) s = .next { s with liu := { s.liu with
        sampled := whole.take m, joinQuiet := quiet
        phase := if m < v.frame.levels.length + 64 then .window else .ending } }) ∧
    ∀ a b c d e : State, s.liu.sampled ++ levels = whole →
    a = { s with verdict := none, liu := restingLiu s quiet (some w) } →
    b = applyVerdict a v →
    c = (match v.frame.body, v.entry with | .pull, some i => judgeMergeWatch b i w | _, _ => b) →
    d = (match v.frame.body with
      | .announce t => hearAnnounce c v.frame.source t w
      | _ => takeEvidence c (some v.frame.source) w) →
    e = scoreCompletion d →
    e.lifecycle = s.lifecycle ∧
    ∃ t, exec (.receivedFrameCompletion levels) s = .next t ∧
      (s.lifecycle = .joining → t = enterOnline e ∧ t.lifecycle = .online) ∧
      (s.lifecycle = .online → t = (if v.driven = true
        then { e with announceTimer := some ⟨s.time, durationParam s (·.announce) 0⟩ } else e)) ∧
      (s.lifecycle ≠ .joining → s.lifecycle ≠ .online → t = e)

/-- R142 to R146, R148, R150, R151: how outcomes, completions and faults move the score, the standing judged from it, the
clean count and the notices; the last fault kind follows every fault report. -/
def Obligations.FaultScoreAndStanding : Prop :=
  ∀ s : State, fcuLaw s →
    (∀ o, (fcuOutcome s o).fcu.lastFault = if o = .unheard then some .noReceipt else s.fcu.lastFault) ∧
    (∀ k, (scoreReceiverFault s k).fcu.lastFault = some k) ∧
    (scoreCompletion s).fcu.lastFault = s.fcu.lastFault ∧
    ((s.lifecycle = .online ∨ s.lifecycle = .leaving) → s.fcu.standing ≠ .muted → ∀ (t : State) (n : Nat),
      ((t = fcuOutcome s .completed ∧ n = s.fcu.score - 2) ∨
        (t = fcuOutcome s .unheard ∧ n = if s.fcu.standing = .good then s.fcu.score + 6 else s.fcu.score) ∨
        (t = fcuOutcome s .destroyed ∧ n = s.fcu.score + 6) ∨
        (t = fcuOutcome s .outbid ∧ n = s.fcu.score) ∨ (t = fcuOutcome s .collided ∧ n = s.fcu.score) ∨
        (t = scoreCompletion s ∧ n = s.fcu.score - 1) ∨
        (t = scoreReceiverFault s .beat ∧ n = s.fcu.score + 1) ∨
        (t = scoreReceiverFault s .form ∧ n = s.fcu.score + 1) ∨
        (t = scoreReceiverFault s .check ∧ n = s.fcu.score + 1) ∨
        (t = scoreReceiverFault s .abortSeen ∧ n = s.fcu.score)) →
      t = { s with fcu := t.fcu, flags := t.flags } ∧ t.fcu.score = n ∧ t.fcu.cleanCount = 0 ∧
      t.fcu.standing = (if n < 48 then .good else if n ≤ 119 then .cautious else .muted) ∧
      t.flags = (if t.fcu.standing = s.fcu.standing then s.flags else s.flags ||| 0x02)) ∧
    (s.lifecycle = .joining ∨ s.fcu.standing = .muted →
      (∀ o, fcuOutcome s o = { s with fcu := (fcuOutcome s o).fcu } ∧
        (fcuOutcome s o).fcu = { s.fcu with lastFault := (fcuOutcome s o).fcu.lastFault }) ∧
      scoreReceiverFault s .abortSeen = { s with fcu := { s.fcu with lastFault := some .abortSeen } }) ∧
    (s.lifecycle = .joining → s.fcu.standing = .good → scoreCompletion s = s ∧
      ∀ k, scoreReceiverFault s k = { s with fcu := { s.fcu with lastFault := some k } }) ∧
    (s.lifecycle = .online → s.fcu.standing = .muted →
      (∀ k, (k = .beat ∨ k = .form ∨ k = .check) →
        scoreReceiverFault s k = { s with fcu := ⟨s.fcu.score, .muted, 0, some k⟩ }) ∧
      (s.fcu.cleanCount < 47 →
        scoreCompletion s = { s with fcu := { s.fcu with cleanCount := s.fcu.cleanCount + 1 } }) ∧
      (s.fcu.cleanCount = 47 → scoreCompletion s = { s with
        fcu := ⟨0, .good, 0, s.fcu.lastFault⟩, flags := s.flags ||| 0x06
        announce := some (match s.announce with | none | some ⟨.present, _⟩ => ⟨.join, 0⟩ | some a => a)
        liu := { s.liu with phase := if s.liu.phase = .listening then .resting else s.liu.phase } }))

/-! ## Outcomes of the station's own frames (chapters 2 and 4 to 8) -/

/-- R38, R75, R26, R27, R139: which outcome the levels sampled decide, how the LIU goes on, and that the FCU, the roster,
the block that owns the request and Station Control take it (in the order of log entry 9, the model's choice); with no
frame in flight an outcome is dropped (log entry 7, the model's choice). DESTROYED is handed over without levels after the
fault, and leaves the LIU as it is (log entry 20, the model's choice). R26: a station that lost contention at a beat goes
on as a receiver of the frame that beat it; that the wrong beat is no fault there is the model's reading (log entry 30).
R39: levels that decide nothing are sampled, in SENDING, WINDOW and ENDING by their place; that they may be handed over in
parts is log entry 21, the model's choice. -/
def Obligations.OwnFrameOutcomeIsHandled : Prop :=
  (∀ (s : State) (levels : List Level), s.inFlight = none → exec (.ownFrameOutcome levels) s = .next s) ∧
  (∀ (s : State) (fl : InFlight) (levels : List Level), s.inFlight = some fl →
    (fl.destroyed = true → exec (.ownFrameOutcome []) s = .next (handleOutcome s fl .destroyed none)) ∧
    (fl.destroyed = false → s.liu.contention = .sending →
      (s.liu.phase = .sending ∨ s.liu.phase = .window ∨ s.liu.phase = .ending) →
      (∀ (w : Window) (whole : List Level), w[fl.content.source] = .absent →
        whole = fl.content.levels ++ windowLevels w ++ endField →
        (s.liu.sampled ++ levels = whole → exec (.ownFrameOutcome levels) s = .next (handleOutcome
          { s with liu := restingLiu s s.liu.joinQuiet (some w) } fl
          (if ∃ st : Station, w[st] ≠ .absent then .completed else .unheard) (some w))) ∧
        ∀ m, s.lifecycle ≠ .joining → m < whole.length → s.liu.sampled ++ levels = whole.take m →
          exec (.ownFrameOutcome levels) s = .next { s with liu := { s.liu with
            sampled := whole.take m
            phase := if m < fl.content.levels.length then .sending
              else if m < fl.content.levels.length + 64 then .window else .ending } }) ∧
      ∀ n, s.liu.sampled ++ levels = fl.content.levels.take n ++ [false] → fl.content.levels[n]? = some true →
        (1 ≤ n → n ≤ 19 → exec (.ownFrameOutcome levels) s = .next (handleOutcome { s with liu := { s.liu with
          phase := .receiving, sampled := s.liu.sampled ++ levels, contention := .lostHeader } } fl .outbid none)) ∧
        (20 ≤ n → n ≤ 24 → exec (.ownFrameOutcome levels) s = .next (handleOutcome { s with liu := { s.liu with
          phase := .receiving, sampled := s.liu.sampled ++ levels, contention := .lostSource } } fl .collided
          none)))) ∧
  (∀ (s : State) (fl : InFlight) (o : TxOutcome) (w : Option Window) (a b : State),
    a = fcuOutcome { s with inFlight := none } o →
    b = (match o, w with
      | .completed, some w => if s.lifecycle = .online
          then { takeEvidence a none w with announceTimer := some ⟨s.time, durationParam s (·.announce) 0⟩ }
          else takeEvidence a none w
      | .unheard, some w => takeEvidence a none w
      | _, _ => a) →
    handleOutcome s fl o w = (match fl.request with
      | .publish i => reportStanding (publishOutcome b i fl.attempts fl.content.body.content.2.1 o w)
      | .pull i => reportStanding (pullOutcome b i o w)
      | .claim i => reportStanding (claimOutcome b i o w)
      | .yield i => reportStanding (yieldOutcome b i o w)
      | .announce t => if (announceOutcome b t fl.attempts o).2 = true ∧ s.lifecycle = .leaving
          then halt (announceOutcome b t fl.attempts o).1
          else reportStanding (announceOutcome b t fl.attempts o).1)) ∧
  (∀ (s : State) (f : Frame) (p : StationParams) (n : Nat) (levels : List Level), s.params = some p →
    s.lifecycle ≠ .joining → f.allowed → f.source ≠ p.station → n = 9 ∨ n = 18 → f.levels[n]? = some true →
    s.liu.phase = .receiving → s.liu.fault = none → s.liu.sampled = f.levels.take n ++ [false] →
    levels = f.levels.drop (n + 1) → exec (.frameVerdictPoint levels) s = .next { s with
      verdict := some (verdictOn s f), liu := { s.liu with phase := .window, sampled := s.liu.sampled ++ levels } }) ∧
  ∀ u : State, reportStanding u = if u.lifecycle = .leaving ∧ u.fcu.standing = .muted then halt u
    else { u with liu := { u.liu with phase :=
      if u.lifecycle = .joining ∨ (u.fcu.standing = .muted ∧ u.lifecycle = .online)
        then (if u.liu.phase = .resting ∨ u.liu.phase = .idle then .listening else u.liu.phase)
        else (if u.liu.phase = .listening then .resting else u.liu.phase) } }

/-- R70, R75 to R77, R87: a PUBLISH outcome starts the inhibit timer, and is unconfirmed or governed by the delivery that
is OPEN for the captured version; what each leaves of the request, and what it posts. -/
def Obligations.PublishOutcomesFollowTheTables : Prop :=
  ∀ (s : State) (i : EntryIx) (n : Nat) (captured : Byte) (o : TxOutcome) (w : Option Window) (u : State),
    u = (if (o = .completed ∨ o = .unheard ∨ o = .destroyed) ∧ (s.cfg i).inhibit ≠ 0 ∧ (s.rt i).role = .publisher
      then { s with entries := s.entries.set i ⟨s.cfg i, { s.rt i with
        inhibitTimer := some ⟨s.time, (s.cfg i).inhibit⟩ }⟩ }
      else s) →
    ∀ kept : State → Nat → State, (∀ x k, kept x k = if (x.rt i).role = .publisher then { x with
        entries := x.entries.set i ⟨x.cfg i, { x.rt i with pending := { (x.rt i).pending with
          publish := some (match (x.rt i).pending.publish with | some m => m | none => k) } }⟩ } else x) →
    ((∀ d, (s.rt i).delivery = some d → d.state ≠ .opened ∨ d.version ≠ captured) →
      (o = .completed → publishOutcome s i n captured o w = u) ∧
      (o = .outbid ∨ o = .collided → publishOutcome s i n captured o w = kept u n) ∧
      (o = .unheard ∨ o = .destroyed →
        (n + 1 < 16 → publishOutcome s i n captured o w = kept u (n + 1)) ∧
        (16 ≤ n + 1 → (s.rt i).role = .publisher → (s.rt i).pending.publish = none →
          publishOutcome s i n captured o w = post u i Reason.sendFailed.alone) ∧
        (16 ≤ n + 1 → ((s.rt i).role ≠ .publisher ∨ (s.rt i).pending.publish ≠ none) →
          publishOutcome s i n captured o w = u))) ∧
    ∀ d d', (s.rt i).delivery = some d → d.state = .opened → d.version = captured →
      d' = account (s.cfg i) d o w → ∀ closed : DeliveryState → State,
      (∀ st, closed st = { u with entries := u.entries.set i ⟨u.cfg i, { u.rt i with
        delivery := some { d' with state := st } }⟩ }) →
      ((o = .outbid ∨ o = .collided) → publishOutcome s i n captured o w = kept (closed .opened) n) ∧
      ((o = .completed ∨ o = .unheard ∨ o = .destroyed) →
        (d'.receipts ||| d'.refused = (s.cfg i).required → d'.refused = 0 →
          publishOutcome s i n captured o w = post (closed .delivered) i Reason.delivered.alone) ∧
        (d'.receipts ||| d'.refused = (s.cfg i).required → d'.refused ≠ 0 →
          publishOutcome s i n captured o w = post (closed .undelivered) i Reason.undelivered.alone) ∧
        (d'.receipts ||| d'.refused ≠ (s.cfg i).required → d'.attempts = (s.cfg i).attemptLimit →
          publishOutcome s i n captured o w = post (closed .undelivered) i Reason.undelivered.alone) ∧
        (d'.receipts ||| d'.refused ≠ (s.cfg i).required → d'.attempts ≠ (s.cfg i).attemptLimit →
          publishOutcome s i n captured o w = kept (closed .opened) (n + 1)))

/-- R85, R86: the accounting of a governed outcome counts the attempt and, on COMPLETED alone, reads the slots of the
required receivers and of no other station. -/
def Obligations.AccountingReadsTheRequiredSlots : Prop :=
  ∀ (c : ItemConfig) (d : Delivery) (o : TxOutcome) (w : Window) (st : Station) (window : Option Window),
    ((account c d o window).state = d.state ∧ (account c d o window).version = d.version ∧
      (account c d o window).attempts =
        if o = .completed ∨ o = .unheard ∨ o = .destroyed then d.attempts + 1 else d.attempts) ∧
    (o ≠ .completed → (account c d o window).receipts = d.receipts ∧ (account c d o window).refused = d.refused) ∧
    (c.required.getLsbD st.val = false →
      (account c d .completed (some w)).receipts.getLsbD st.val = d.receipts.getLsbD st.val ∧
      (account c d .completed (some w)).refused.getLsbD st.val = d.refused.getLsbD st.val) ∧
    (c.required.getLsbD st.val = true →
      (account c d .completed (some w)).receipts.getLsbD st.val
        = (d.receipts.getLsbD st.val || decide (w[st] = .taken)) ∧
      (account c d .completed (some w)).refused.getLsbD st.val
        = (match w[st] with
          | .taken => false
          | .seen => d.refused.getLsbD st.val || !d.receipts.getLsbD st.val
          | .busy | .absent => d.refused.getLsbD st.val))

/-- R99 to R101: a PULL outcome, taken for the record that marks the frame as its own and for no other; the judgement of
the winning frame's window for a merged pull; and the end of a merge watch without one. -/
def Obligations.PullOutcomesFollowTheTables : Prop :=
  (∀ (s : State) (i : EntryIx) (o : TxOutcome) (w : Option Window),
    (∀ q ∈ s.pulls, q.entry = i → q.onLine = false) → pullOutcome s i o w = s) ∧
  ∀ (s : State) (p : PullRecord) (params : StationParams) (w : Window), s.params = some params → p ∈ s.pulls →
    (s.pulls.map (·.entry)).Nodup →
    ∀ becomes : PullRecord → Bool → State, (∀ r b, becomes r b = { s with
      pulls := s.pulls.map fun q => if q.entry = p.entry then r else q
      entries := s.entries.set p.entry ⟨s.cfg p.entry, { s.rt p.entry with
        pending := { (s.rt p.entry).pending with pull := b } }⟩ }) →
    ∀ gone : State, gone = post (removePull s p.entry) p.entry Reason.pullUnanswered.alone →
    (p.onLine = true →
      ((∃ st : Station, w[st] = .taken) → pullOutcome s p.entry .completed (some w) = becomes
        ⟨p.entry, .sent, p.attempts + 1, some ⟨s.time, params.pull⟩, false, false⟩ false) ∧
      ((∀ st : Station, w[st] ≠ .taken) → pullOutcome s p.entry .completed (some w) = gone) ∧
      pullOutcome s p.entry .unheard (some w) = gone ∧
      (p.attempts + 1 < 3 → pullOutcome s p.entry .destroyed none
        = becomes { p with attempts := p.attempts + 1, onLine := false } true) ∧
      (3 ≤ p.attempts + 1 → pullOutcome s p.entry .destroyed none = gone) ∧
      pullOutcome s p.entry .outbid none = becomes { p with onLine := false } true ∧
      pullOutcome s p.entry .collided none
        = becomes { p with attempts := p.attempts + 1, onLine := false, mergeWatch := true } true) ∧
    (p.mergeWatch = true →
      ((∃ st : Station, w[st] = .taken) → judgeMergeWatch s p.entry w = becomes
        ⟨p.entry, .sent, p.attempts, some ⟨s.time, params.pull⟩, false, false⟩ false) ∧
      ((∀ st : Station, w[st] ≠ .taken) → judgeMergeWatch s p.entry w = gone) ∧
      ((∀ q ∈ s.pulls, q.mergeWatch = true → q = p) →
        (p.attempts < 3 → abandonMergeWatch s = { s with
          pulls := s.pulls.map fun q => if q.entry = p.entry then { p with mergeWatch := false } else q }) ∧
        (3 ≤ p.attempts → abandonMergeWatch s = gone))) ∧
    (p.mergeWatch = false → judgeMergeWatch s p.entry w = s)

/-- R113 to R116, R119 to R121: a CLAIM outcome by window and claim kind, acted on only for the frame the running claim
marked; a YIELD outcome by the target's slot and the yield attempt count. -/
def Obligations.ClaimAndYieldOutcomesFollowTheTables : Prop :=
  (∀ (s : State) (i : EntryIx) (o : TxOutcome) (w : Option Window),
    ((s.rt i).role ≠ .claiming ∨ (∀ c, (s.rt i).claim = some c → c.frameMark = false) → claimOutcome s i o w = s) ∧
    ((s.rt i).role ≠ .yielding → yieldOutcome s i o w = s)) ∧
  (∀ (s : State) (i : EntryIx) (kind : ClaimKind) (p : StationParams) (w : Window), s.params = some p →
    (s.rt i).role = .claiming → (s.rt i).claim = some ⟨kind, true⟩ →
    ∀ u : State, u = { s with entries := s.entries.set i ⟨s.cfg i, { s.rt i with claim := some ⟨kind, false⟩ }⟩ } →
    ∀ kept : State, kept = { s with entries := s.entries.set i ⟨s.cfg i, { s.rt i with
      claim := some ⟨kind, false⟩, pending := { (s.rt i).pending with claim := true } }⟩ } →
    ((∃ st, st ≠ p.station ∧ w[st] = .taken) → claimOutcome s i .completed (some w) = u) ∧
    ((∀ st, st ≠ p.station → w[st] ≠ .taken) →
      (kind = .adopt → claimOutcome s i .completed (some w) = adopt u i) ∧
      (kind = .normal → ∀ src, (s.rt i).source = some src →
        (w[src.station] = .seen → claimOutcome s i .completed (some w) = endClaim u i .claimRefused) ∧
        (w[src.station] = .busy ∨ w[src.station] = .absent → claimOutcome s i .completed (some w) = kept))) ∧
    (kind = .adopt → claimOutcome s i .unheard (some w) = adopt u i) ∧
    (kind = .normal → claimOutcome s i .unheard (some w) = kept) ∧
    claimOutcome s i .destroyed none = kept ∧ claimOutcome s i .outbid none = kept ∧
    claimOutcome s i .collided none = endClaim u i .claimLost) ∧
  ∀ (s : State) (i : EntryIx) (y : YieldPart) (w : Window), (s.rt i).role = .yielding → (s.rt i).yield = some y →
    ∀ kept : Nat → State, (∀ k, kept k = { s with entries := s.entries.set i ⟨s.cfg i, { s.rt i with
      yield := some ⟨y.target, k⟩, pending := { (s.rt i).pending with yield := true } }⟩ }) →
    (w[y.target] = .taken → yieldOutcome s i .completed (some w)
      = post (enterMirror s i y.target (s.rt i).generation (s.rt i).version (s.rt i).storage) i
        Reason.ownerLost.alone) ∧
    (w[y.target] = .seen → yieldOutcome s i .completed (some w) = failYield s i) ∧
    (w[y.target] = .busy ∨ w[y.target] = .absent → yieldOutcome s i .completed (some w)
      = if y.attempts + 1 < 8 then kept (y.attempts + 1) else failYield s i) ∧
    yieldOutcome s i .unheard (some w) = (if y.attempts + 1 < 8 then kept (y.attempts + 1) else failYield s i) ∧
    yieldOutcome s i .destroyed none = (if y.attempts + 1 < 8 then kept (y.attempts + 1) else failYield s i) ∧
    yieldOutcome s i .outbid none = kept y.attempts ∧ yieldOutcome s i .collided none = kept y.attempts

/-- R66, R78, R79: how announce requests combine by strength, and what each outcome leaves of a JOIN, a PRESENT and a
LEAVE; the second part of the answer tells Station Control that the leave is over. -/
def Obligations.AnnounceOutcomesFollowTheRules : Prop :=
  (∀ b : AnnounceRequest, combineAnnounce none b = some b) ∧
  (∀ a b : AnnounceRequest, combineAnnounce (some a) b
    = some (if (a.type = .present ∧ b.type ≠ .present) ∨ (a.type = .join ∧ b.type = .leave) then b else a)) ∧
  ∀ (s : State) (t : AnnounceType) (n : Nat) (back : Nat → State),
    (∀ k, back k = { s with announce := combineAnnounce s.announce ⟨t, k⟩ }) →
    announceOutcome s t n .outbid = (back n, false) ∧
    (t = .join ∨ t = .present → announceOutcome s t n .completed = (s, false) ∧
      ∀ o, (o = .unheard ∨ o = .destroyed) →
        announceOutcome s t n o = (if n + 1 < 16 then back (n + 1) else s, false)) ∧
    (t = .leave → announceOutcome s t n .completed = (s, true) ∧ announceOutcome s t n .unheard = (s, true) ∧
      announceOutcome s t n .destroyed = if n + 1 < 4 then (back (n + 1), false) else (s, true))

/-! ## Faults, recovery and halting (chapters 2, 8 and 10) -/

/-- R22 to R24, R28, R32, R36: where and as what a fault is found. A receiver: a wrong beat, a check field that does not
match, a dominant end-field bit, and each field that is not allowed: key, kind with class and key, an announce's key and
type, a length above 12, a YIELD's new owner, a fill bit. A sender: a level it did not drive outside contention, its own
slot answered, a dominant end-field bit. At the sixth dominant bit of a run or later it is ABORT-SEEN. -/
def Obligations.FaultsAreFoundAsTheManualSays : Prop :=
  (∀ (f : Frame) (n : Nat), f.allowed → 1 ≤ n →
    (f.levels[9 * n]? = some false → rxFaultNow (f.levels.take (9 * n) ++ [true]) = some .beat) ∧
    (f.levels[9 * n]? = some true →
      (endsInFiveDominant (f.levels.take (9 * n)) →
        rxFaultNow (f.levels.take (9 * n) ++ [false]) = some .abortSeen) ∧
      (¬ endsInFiveDominant (f.levels.take (9 * n)) →
        rxFaultNow (f.levels.take (9 * n) ++ [false]) = some .beat))) ∧
  (∀ (f : Frame) (c : Nat), f.allowed → c < 65536 → c ≠ (crc f.covered).toNat →
    rxFaultNow (wrongCheck f c) = some .check ∧ frameAtVerdict (wrongCheck f c) = none) ∧
  (∀ cls key : Nat, cls < 4 → 32 ≤ key → key ≤ 63 →
    rxFaultNow (false :: insertBeats 0 (natBits 2 cls ++ natBits 12 key)) = some .form) ∧
  (∀ cls key kind : Nat, cls < 4 → key < 4096 → key < 32 ∨ 63 < key → kind < 8 →
    (5 ≤ kind ∨ (cls = 0 ∧ kind ≠ 4) ∨ (cls ≠ 0 ∧ kind = 4) ∨ (key < 32 ∧ kind ≠ 4)) →
    rxFaultNow (false :: insertBeats 0 (natBits 2 cls ++ natBits 12 key ++ natBits 3 kind)) = some .form) ∧
  (∀ key source : Nat, key < 32 ∨ 63 < key → key < 4096 → source < 32 → key ≠ source →
    rxFaultNow (false :: insertBeats 0 (headerBits 0 key 4 source)) = some .form) ∧
  (∀ source : Nat, source < 32 →
    rxFaultNow ((false :: insertBeats 0 (headerBits 0 source 4 source ++ natBits 2 3)).take 27) = some .form) ∧
  (∀ (cls key source len : Nat) (g v : Byte), 1 ≤ cls → cls < 4 → 64 ≤ key → key < 4096 → source < 32 →
    13 ≤ len → len < 16 →
    rxFaultNow (false :: insertBeats 0 (headerBits cls key 2 source
      ++ natBits 8 g.toNat ++ natBits 8 v.toNat ++ natBits 4 len)) = some .form ∧
    ∀ newOwner : Nat, newOwner < 32 → newOwner ≠ source →
      rxFaultNow (false :: insertBeats 0 (headerBits cls key 0 source ++ natBits 5 newOwner ++ [true, true, true]
        ++ natBits 8 g.toNat ++ natBits 8 v.toNat ++ natBits 4 len)) = some .form) ∧
  (∀ cls key source : Nat, 1 ≤ cls → cls < 4 → 64 ≤ key → key < 4096 → source < 32 →
    rxFaultNow (false :: insertBeats 0 (headerBits cls key 0 source ++ natBits 5 source)) = some .form) ∧
  (∀ (f : Frame) (n : Nat), f.allowed → f.fillPlace n →
    (endsInFiveDominant (f.levels.take n) → rxFaultNow (f.levels.take n ++ [false]) = some .abortSeen) ∧
    (¬ endsInFiveDominant (f.levels.take n) → rxFaultNow (f.levels.take n ++ [false]) = some .form)) ∧
  (∀ (f : Frame) (w : Window) (k : Nat) (levels : List Level), f.allowed → k < 7 →
    levels = f.levels ++ windowLevels w ++ List.replicate k true →
    (endsInFiveDominant levels → rxFaultNow (levels ++ [false]) = some .abortSeen) ∧
    (¬ endsInFiveDominant levels → rxFaultNow (levels ++ [false]) = some .form) ∧
    (w[f.source] = .absent →
      (endsInFiveDominant levels → txFaultNow f (levels ++ [false]) = some .abortSeen) ∧
      (¬ endsInFiveDominant levels → txFaultNow f (levels ++ [false]) = some .bit))) ∧
  (∀ (f : Frame) (n : Nat),
    (f.levels[n]? = some false → txFaultNow f (f.levels.take n ++ [true]) = some .bit) ∧
    (f.levels[n]? = some true → 25 ≤ n →
      (endsInFiveDominant (f.levels.take n) → txFaultNow f (f.levels.take n ++ [false]) = some .abortSeen) ∧
      (¬ endsInFiveDominant (f.levels.take n) → txFaultNow f (f.levels.take n ++ [false]) = some .bit))) ∧
  ∀ (f : Frame) (before : List Level) (a b : Level), before.length = 2 * f.source.val → a = false ∨ b = false →
    txFaultNow f (f.levels ++ before ++ [a, b]) = some .slot

/-- R34, R35, R37, R40, R42, R101, R144: what a fault does at a sender and at a receiver: the mark a GOOD station that is
not receive-only owes, the silent following or the recovery of one that sends none, the verdict discarded, and the score
taken. The model's choices here: a merge watch ends before the score is taken (log entry 10), the frame in flight carries a
destroyed mark until its outcome is handed over (log entry 20), the LIU is in WINDOW with 72 bit times to pass while a mark
waits for the end field, and a sender that follows its frame silently is in a receiver's phase (log entry 21). -/
def Obligations.FaultFoundEndsTheFrame : Prop :=
  ∀ (s : State) (levels sampled : List Level) (k : FaultKind), sampled = s.liu.sampled ++ levels →
    ∀ silent : LiuPhase, silent = (if lengthKnown sampled = true then phaseAt sampled else .recovering) →
    (∀ fl, (s.lifecycle = .online ∨ s.lifecycle = .leaving) → s.liu.contention = .sending →
      (s.liu.phase = .sending ∨ s.liu.phase = .window ∨ s.liu.phase = .ending) → s.fcu.standing ≠ .muted →
      s.inFlight = some fl → txFaultNow fl.content sampled = some k → (k = .bit ∨ k = .abortSeen ∨ k = .slot) →
      exec (.faultFound levels) s = .next { s with
        inFlight := some { fl with destroyed := true }
        fcu := { s.fcu with lastFault := some k }
        liu := { s.liu with
          sampled := sampled, contention := .none, fault := some k
          phase := if s.fcu.standing = .good ∧ k ≠ .slot then .aborting else silent
          markBits := if s.fcu.standing = .good ∧ k ≠ .slot then 8 else 0
          recovery := 0 } }) ∧
    ∀ marks : Bool, marks = decide (s.fcu.standing = .good ∧ s.lifecycle ≠ .joining) →
      (s.lifecycle = .joining ∨ s.lifecycle = .online ∨ s.lifecycle = .leaving) →
      (s.liu.phase = .receiving ∨ s.liu.phase = .window ∨ s.liu.phase = .ending) → s.liu.contention ≠ .sending →
      s.liu.fault = none → sourceIsOwn s.own sampled = false →
      rxFaultNow sampled = some k → (k = .beat ∨ k = .form ∨ k = .check ∨ k = .abortSeen) →
      (levels = [] → k = .form ∨ k = .check) →
      exec (.faultFound levels) s = .next (reportStanding (scoreReceiverFault (abandonMergeWatch { s with
        verdict := none
        liu := { s.liu with
          sampled := sampled, contention := .none, fault := some k
          phase := if marks = true then (if k = .check then .window else .aborting) else silent
          markBits := if marks = true then (if k = .check then 72 else 8) else 0
          recovery := 0
          joinQuiet := if s.lifecycle = .joining then recessiveRun s.liu.joinQuiet levels
            else s.liu.joinQuiet } }) k))

/-- R37, R25, R35: seven recessive bits in a row end the recovery, counted after the mark where one is being driven. A
frame followed silently, after a wrong beat, a dominant fill or end-field bit, a check field that does not match or a SLOT
fault, ends with its end field, where nothing further is amiss; a further dominant beat, fill or end-field bit where
recessive was due ends the following (after a dominant fill bit before a CLAIM's fourth beat that beat is one), and seven
recessive bits after it the recovery. Both leave the LIU between frames with nothing completed. R35, R39: short of these, a
mark to come is WINDOW before its eight bits, ABORTING in them and RECOVERING at its end, RECOVERING counts the recessive
bits in a row, and a frame followed silently is in RECEIVING, WINDOW or ENDING by its place. That levels are handed over
in parts, and that a further irregularity is found with the recovery after it, is the model's choice (log entry 21); so is
that a check field that mismatches after a dominant fill bit does not end the following (log entry 32). -/
def Obligations.RecoveryAndSilentEnd : Prop :=
  ∀ (s : State) (levels : List Level) (quiet : Nat),
    quiet = (if s.lifecycle = .joining then recessiveRun s.liu.joinQuiet levels else s.liu.joinQuiet) →
    (∀ (mark rest : List Level) (row : Nat), levels = mark ++ rest →
      ((s.liu.phase = .recovering ∧ s.liu.markBits = 0 ∧ mark = [] ∧ row = s.liu.recovery ∧ row < 7) ∨
        (s.liu.markBits ≠ 0 ∧ mark.length = s.liu.markBits ∧ row = 0)) →
      (∀ before, List.replicate row true ++ rest = before ++ List.replicate 7 true → sevenAtTheEnd before →
        exec (.lineRecovered levels) s = .next { s with liu := restingLiu s quiet none }) ∧
      ((∀ x y, List.replicate row true ++ rest ≠ x ++ List.replicate 7 true ++ y) →
        exec (.lineRecovered levels) s = .next { s with liu := { s.liu with
          phase := .recovering, markBits := 0, recovery := recessiveRun row rest, joinQuiet := quiet } })) ∧
    (s.liu.markBits ≠ 0 → levels.length ≤ s.liu.markBits →
      exec (.lineRecovered levels) s = .next { s with liu := { s.liu with
        phase := if s.liu.markBits = levels.length then .recovering
          else if s.liu.markBits - levels.length ≤ 8 then .aborting else .window
        markBits := s.liu.markBits - levels.length, recovery := 0, joinQuiet := quiet } }) ∧
    (∀ (f : Frame) (g : Byte) (a : Bool) (before : List Level), f.allowed → f.body = .claim g a →
      (s.liu.phase = .receiving ∨ s.liu.phase = .window ∨ s.liu.phase = .ending) → s.liu.fault ≠ none →
      s.liu.markBits = 0 → s.liu.sampled = f.levels.take 35 ++ [false] →
      levels = false :: before ++ List.replicate 7 true → sevenAtTheEnd before →
      exec (.lineRecovered levels) s = .next { s with liu := restingLiu s quiet none }) ∧
    ∀ (f : Frame) (w : Window) (m : Nat) (whole : List Level), f.allowed → f.irregularLine w m whole →
      (s.liu.phase = .receiving ∨ s.liu.phase = .window ∨ s.liu.phase = .ending) → s.liu.fault ≠ none →
      s.liu.markBits = 0 → s.liu.sampled = whole.take m → lengthKnown (whole.take m) = true →
      (levels = whole.drop m →
        exec (.silentFrameEnd levels) s = .next { s with liu := restingLiu s quiet none }) ∧
      (∀ n, m ≤ n → n < whole.length → levels = (whole.take n).drop m →
        exec (.silentFrameEnd levels) s = .next { s with liu := { s.liu with
          sampled := whole.take n, joinQuiet := quiet
          phase := if n < f.levels.length then .receiving
            else if n < f.levels.length + 64 then .window else .ending } }) ∧
      ∀ (n : Nat) (rest : List Level), m ≤ n → f.fixedPlace n → whole[n]? = some true →
        levels = (whole.take n).drop m ++ [false] ++ rest →
        (∀ before, rest = before ++ List.replicate 7 true → sevenAtTheEnd before →
          exec (.lineRecovered levels) s = .next { s with liu := restingLiu s quiet none }) ∧
        ((∀ x y, rest ≠ x ++ List.replicate 7 true ++ y) →
          exec (.lineRecovered levels) s = .next { s with liu := { s.liu with
            phase := .recovering, recovery := recessiveRun 0 rest, joinQuiet := quiet } })

/-- R29, R32, R139: another station's frame that bears the own number, seen at its last source bit, and a SLOT fault set
DUPLICATE-STATION and halt the station in JOINING, ONLINE and LEAVING. R41, R62, R95, R112, R130, R165: what entry to
HALTED leaves; every claim ends with CLAIM-TIMEOUT, posted in ascending index (R170), and nothing else is posted. The
values of the LIU's fields in HALTED are log entry 18, and that the merge watch of a frame cut so is cleared without a
judgement is log entry 10: the model's choices. -/
def Obligations.SightingsAndTheHalt : Prop :=
  (∀ (s : State) (p : StationParams), s.params = some p →
    (s.lifecycle = .joining ∨ s.lifecycle = .online ∨ s.lifecycle = .leaving) →
    ∀ flagged : State, flagged = { s with flags := s.flags ||| 0x10 } →
    (∀ (f : Frame) (levels : List Level), f.allowed → f.source = p.station → s.liu.phase = .receiving →
      s.liu.sampled ++ levels = f.levels.take 25 →
      exec (.duplicateSighting levels) s = .next (halt flagged)) ∧
    (s.liu.fault = some .slot → exec (.duplicateSighting []) s = .next (halt flagged))) ∧
  ∀ (s : State) (p : StationParams), s.params = some p →
    ∀ base u : State,
    base = { s with entries := Vector.ofFn fun i => ⟨s.cfg i, { s.rt i with
      role := if (s.rt i).role = .claiming then .subscriber else (s.rt i).role
      claim := none, claimTimer := none, pending := { (s.rt i).pending with claim := false }
      periodTimer := none, inhibitTimer := none, freshTimer := none, holdTimer := none, held := false }⟩ } →
    u = ((List.finRange 128).filter fun i => decide ((s.rt i).role = .claiming)).foldl
      (fun x i => post x i Reason.claimTimeout.alone) base →
    halt s = { u with
      roster := Vector.ofFn fun st => if st = p.station then ⟨.absent, none⟩ else { s.record st with silence := none }
      announceTimer := none, inFlight := none, verdict := none
      liu := ⟨.off, [], .none, none, none, 0, 0, 0, 0⟩, lifecycle := .halted, flags := u.flags ||| 0x08
      pulls := s.pulls.map fun q => { q with replyTimer := none, onLine := false, mergeWatch := false } }

/-- R165: in HALTED nothing changes but station time, the replies, the station notice set cleared by STATUS and the
notices drained by NEXT-NOTICE, until RESTART or full reset. -/
def Obligations.HaltedIsLeftByRestartAndResetAlone : Prop :=
  ∀ (c : Instr) (s t : State), haltedLaw s → s.lifecycle = .halted → c ≠ .fullReset → (∀ ops, c ≠ .restart ops) →
    exec c s = .next t →
    t = { s with time := t.time, reply := t.reply, shiftedOut := t.shiftedOut, flags := t.flags
                 notices := t.notices, entries := t.entries } ∧
    ((∀ ops, c ≠ .status ops) → t.flags = s.flags) ∧
    ((∀ ops, c ≠ .nextNotice ops) → t.notices = s.notices ∧ t.entries = s.entries) ∧
    (c ≠ .stationTimeTick → t.time = s.time) ∧
    ∀ i, t.cfg i = s.cfg i ∧ t.rt i = { s.rt i with deferred := (t.rt i).deferred }

/-! ## The frame layout and contention (chapter 2) -/

/-- R20 to R24, R31, R33: the levels of an allowed frame have the length the table at the end of chapter 2 gives, show no
fault on the way, and read back as the frame at the verdict point and as the window at the end: no bit of the layout is
dropped. -/
def Obligations.FrameLevelsAreReadBack : Prop :=
  ∀ f : Frame, f.allowed →
    f.levels.length = (match f.body with
      | .pull => 43
      | .announce _ => 52
      | .claim _ _ => 57
      | .publish _ _ payload => 66 + 9 * payload.length
      | .yield _ _ _ payload => 75 + 9 * payload.length) ∧
    frameAtVerdict f.levels = some f ∧ (∀ n, rxFaultNow (f.levels.take n) = none) ∧
    ∀ w : Window, windowAtEnd (f.levels ++ windowLevels w ++ endField) = some w ∧
      rxFaultNow (f.levels ++ windowLevels w ++ endField) = none

/-- R26, R27, and section 2.1's line: of two frames that begin together the one with the lower arbitration value goes on,
and the sender of the other is OUTBID within the header; at equal values the lower station number goes on and the other
sender is COLLIDED within the source field. -/
def Obligations.LowerArbitrationValueWins : Prop :=
  ∀ f g : Frame, f.allowed → g.allowed →
    (f.arbitrationValue < g.arbitrationValue → ∃ n, n ≤ 20 ∧
      outcomeOf g ((lineOf f g).take n) = some (.outbid, none) ∧ ∀ m ≤ n, txScan f ((lineOf f g).take m) = .ongoing) ∧
    (f.arbitrationValue = g.arbitrationValue → f.source < g.source → ∃ n, 20 < n ∧ n ≤ 25 ∧
      outcomeOf g ((lineOf f g).take n) = some (.collided, none) ∧
      ∀ m ≤ n, txScan f ((lineOf f g).take m) = .ongoing)

/-! ## Laws that every step keeps -/

/-- R169, R171, R82, R85: every step keeps the law of the Notice Queue, and the law of the delivery records. -/
def Obligations.NoticeAndDeliveryLawsAreKept : Prop :=
  (∀ s t : State, noticeLaw s → step s = .next t → noticeLaw t) ∧
  ∀ s t : State, (∀ i, deliveryLaw (s.cfg i) (s.rt i)) → step s = .next t → ∀ i, deliveryLaw (t.cfg i) (t.rt i)

/-- R7, R8, R12, R62, R95, R96, R109, R112: every step keeps the laws of the entries and of the Pull Table, with what
they rest on. R11: every step keeps the law that no mirror records the own number as its source and that an EMPTY mirror
holds zero bytes, with what it rests on. -/
def Obligations.ItemPullAndMirrorLawsAreKept : Prop :=
  (∀ s t : State, tablesLawful s → step s = .next t → tablesLawful t) ∧
  ∀ s t : State, mirrorsLawful s → step s = .next t → mirrorsLawful t

/-- R146, R148, R39, R165, R130, and of R40 the law on frames and abort marks (that on every level driven is part of
`Obligations.EachPhaseDrivesItsColumn`): every step keeps the laws of score, standing and conduct on the line, of
the lifecycle, and of the roster. -/
def Obligations.ConductLifecycleAndRosterLawsAreKept : Prop :=
  (∀ s t : State, driveLawful s → step s = .next t → driveLawful t) ∧
  (∀ s t : State, lifecycleLawful s → step s = .next t → lifecycleLawful t) ∧
  ∀ s t : State, rosterLawful s → step s = .next t → rosterLawful t

/-- R1, R4, R158, R157: every step keeps the ranges of the configuration and the uniqueness of keys; outside CONFIGURING
the parameters and the configuration are fixed until full reset. -/
def Obligations.ConfigurationIsKept : Prop :=
  (∀ s t : State, (∀ i, configLaw (s.cfg i)) → step s = .next t → ∀ i, configLaw (t.cfg i)) ∧
  (∀ s t : State, keyLaw s → step s = .next t → keyLaw t) ∧
  ∀ s t : State, s.lifecycle ≠ .configuring → s.pending.head? ≠ some .fullReset → step s = .next t →
    t.params = s.params ∧ ∀ i, t.cfg i = s.cfg i

/-- R167: the state after full reset meets every law, and full reset is that state; the waiting commands and the count of
free values are the model's own (log entries 2 and 11). The values of State.reset that the manual does not give are the model's choices:
the content of an unused entry (log entry 1), the bytes shifted out (12), the LIU's contention status, mark, recovery and gap count
(18), and what is absent (27). -/
def Obligations.ResetMeetsEveryLaw : Prop :=
  (∀ s : State, exec .fullReset s = .next { State.reset with draws := s.draws, pending := s.pending }) ∧
  noticeLaw State.reset ∧ (∀ i, deliveryLaw (State.reset.cfg i) (State.reset.rt i)) ∧
  mirrorsLawful State.reset ∧ driveLawful State.reset ∧ lifecycleLawful State.reset ∧ rosterLawful State.reset ∧
  keyLaw State.reset
end

