-- ==== Sys2Proof/Laws/Acceptance.lean ====
section
/-! SUPPORT. What a REFRESH can do to the source of an entry: R11 of every PUBLISH, R52 and R54 of a YIELD (log entry
28). -/

namespace Sys2Proof.Machine

/-- A refresh by the version carries the effective source it was judged with. -/
theorem judgeVersion_refresh {held version : Byte} {effective : Station}
    (h : (judgeVersion held version effective).verdict = .refresh) :
    (judgeVersion held version effective).effective = some effective := by
  unfold judgeVersion at *
  split at h
  · cases h
  · split at h
    · simp_all
    · cases h

/-- A mirror judges REFRESH only where the sender or the effective source is its recorded source (R50, R52). -/
theorem judgeMirror_refresh {r : Runtime} {sender effective : Station} {g v : Byte}
    (h : (judgeMirror r sender effective g v).verdict = .refresh) :
    (judgeMirror r sender effective g v).effective = some effective ∧
      (r.source.map (·.station) = some sender ∨ r.source.map (·.station) = some effective) := by
  revert h
  unfold judgeMirror judgeRival
  repeat' split
  all_goals try (intro h; cases h)
  all_goals
    next o ho _ _ hm => exact fun h => ⟨judgeVersion_refresh h, by simpa [ho, eq_comm] using hm⟩

/-- Where any role judges REFRESH, it does so as a mirror does. -/
theorem judgePublication_refresh {own : Station} {c : ItemConfig} {r : Runtime} {sender effective : Station} {g v : Byte}
    (h : (judgePublication own c r sender effective g v).verdict = .refresh) :
    (judgePublication own c r sender effective g v).effective = some effective ∧
      (r.source.map (·.station) = some sender ∨ r.source.map (·.station) = some effective) := by
  unfold judgePublication at *
  split at h
  · next hr => simpa [hr] using judgeMirror_refresh h
  · unfold judgeConflict at h; repeat' (split at h)
    all_goals cases h

/-- The hold makes no REFRESH and changes none (R47). -/
theorem judgeHold_refresh {r : Runtime} {j : Judgement} (h : (judgeHold r j).verdict = .refresh) :
    judgeHold r j = j ∧ j.verdict = .refresh := by
  unfold judgeHold at *
  split at h
  · cases h
  · next hh => exact ⟨by simp [hh], h⟩

/-- R11 of a PUBLISH: its effective source is the recorded source. -/
theorem judgeEntry_publish_refresh {own : Station} {c : ItemConfig} {r : Runtime} {f : Frame} {g v : Byte}
    {p : List Byte} (hb : f.body = .publish g v p) (h : (judgeEntry own c r f).verdict = .refresh) :
    (judgeEntry own c r f).effective = r.source.map (·.station) := by
  unfold judgeEntry at *
  rw [hb] at h ⊢
  dsimp only at *
  split at h
  · cases h
  · next hl =>
    obtain ⟨same, hj⟩ := judgeHold_refresh h
    obtain ⟨he, hs⟩ := judgePublication_refresh hj
    rw [if_neg hl, same, he]
    exact (hs.elim id id).symm

/-- R11 of a PUBLISH, at completion: the recorded source stays, the arrival time is renewed. -/
theorem publish_refresh_keeps_source {own : Station} {c : ItemConfig} {r : Runtime} {f : Frame} {g v : Byte}
    {p : List Byte} {now : Time} {source : Station} (hb : f.body = .publish g v p)
    (h : (judgeEntry own c r f).verdict = .refresh) (he : (judgeEntry own c r f).effective = some source) :
    (refreshRuntime now c source r).source = r.source.map fun o => ⟨o.station, now⟩ := by
  have := (judgeEntry_publish_refresh hb h).symm.trans he
  cases hr : r.source with
  | none => simp [hr] at this
  | some o => simpa [refreshRuntime, hr] using this.symm

end Sys2Proof.Machine
end

