-- ==== Sys2Proof/Laws/Line.lean ====
section
/-! SUPPORT. What a station makes of a frame level by level: a fault once found stays, and while none has been found the
levels held and the further ones are read as one run of levels (R26, R34). -/

namespace Sys2Proof.Machine

theorem Rx.withFault_fault (r : Rx) (k : FaultKind) : (r.withFault k).fault = r.fault.or (some k) := rfl

theorem Rx.withDominant_fault (r : Rx) (k : FaultKind) :
    (r.withDominant k).fault = r.fault.or (some (runKind r.run k)) := rfl

/-- The first fault found governs (R34): a further level never takes its place. -/
theorem Rx.step_fault (r : Rx) (b : Level) (k : FaultKind) (h : r.fault = some k) : (r.step b).fault = some k := by
  simp only [Rx.step, Rx.stepBeat, Rx.stepTail, Rx.stepSpan, Rx.note]
  repeat' split
  all_goals simp [Rx.withFault, Rx.withDominant, h]

theorem Rx.foldl_fault (levels : List Level) (r : Rx) (k : FaultKind) (h : r.fault = some k) :
    (levels.foldl Rx.step r).fault = some k := by
  induction levels generalizing r with
  | nil => exact h
  | cons b bs ih => exact ih _ (Rx.step_fault r b k h)

/-- Where no fault is found in the end, none was found on the way. -/
theorem Rx.clean_of_foldl (levels : List Level) (r : Rx) (h : (levels.foldl Rx.step r).fault = none) :
    r.fault = none := by
  rcases hr : r.fault with _ | k
  · rfl
  · rw [Rx.foldl_fault levels r k hr] at h; cases h

theorem rxScan_append (held levels : List Level) :
    rxScan (held ++ levels) = (levels.drop (1 - held.length)).foldl Rx.step (rxScan held) := by
  cases held with
  | nil => simp [rxScan]
  | cons b bs => simp [rxScan]

theorem rxScan_clean (held levels : List Level) (h : (rxScan (held ++ levels)).fault = none) :
    (rxScan held).fault = none :=
  Rx.clean_of_foldl _ _ (rxScan_append held levels ▸ h)

theorem rxHeld_clean (held : List Level) (h : (rxScan held).fault = none) : rxHeld held = rxScan held := by
  simp [rxHeld, h]

/-- Levels held that show no fault and the further ones are read as one run. -/
theorem rxOn_clean (held levels : List Level) (h : (rxScan held).fault = none) :
    rxOn held levels = rxScan (held ++ levels) := by
  rw [rxOn, rxHeld_clean held h, rxScan_append]

/-- What is first found at the last of some further levels is what the whole run of levels shows first there. -/
theorem rxFaultOn_of_now (held levels : List Level) (k : FaultKind) (hl : levels ≠ [])
    (h : rxFaultNow (held ++ levels) = some k) : rxFaultOn held levels = some k := by
  rw [rxFaultNow, List.dropLast_append_of_ne_nil hl] at h
  split at h
  · rename_i hc
    have hc := Option.isNone_iff_eq_none.mp hc
    have hh := rxScan_clean held _ hc
    rw [rxFaultOn, rxOn_clean held _ hh, rxOn_clean held _ hh]
    simp [hl, hc, h]
  · cases h

/-- Where the whole run of levels shows no fault, none is found with the further levels. -/
theorem rxFaultOn_none (held levels : List Level) (h : (rxScan (held ++ levels)).fault = none) :
    rxFaultOn held levels = none := by
  have ho : (rxOn held levels).fault = none := by rw [rxOn_clean held _ (rxScan_clean held _ h), h]
  rw [rxFaultOn, ho]
  simp

end Sys2Proof.Machine
end

