-- ==== Sys2Proof/Laws/Conduct.lean ====
section
/-! SUPPORT. What the operations of the LIU that sample, mark and recover can do, and what a station drives (R35, R37,
R39, R40). -/

namespace Sys2Proof.Machine

/-- A run short of seven is the run of recessive levels, and stays short of seven (R37). -/
theorem shortRun_some {n m : Nat} {levels : List Level} (h : shortRun n levels = some m) (hn : n < 7) :
    m = recessiveRun n levels ∧ m < 7 := by
  induction levels generalizing n with
  | nil => cases h; exact ⟨rfl, hn⟩
  | cons b bs ih =>
    unfold shortRun at h
    cases b with
    | false => exact ih (n := 0) h (by omega)
    | true =>
      simp only [if_true] at h
      split at h
      · cases h
      · exact ih (n := n + 1) h (by omega)

/-- The phases of a mark by its bits to come (R35, R39). -/
theorem markPhase_cases (m : Nat) :
    (8 < m ∧ markPhase m = .window) ∨ (1 ≤ m ∧ m ≤ 8 ∧ markPhase m = .aborting) ∨ (m = 0 ∧ markPhase m = .recovering) := by
  unfold markPhase
  split
  · exact .inl ⟨‹_›, rfl⟩
  · split
    · exact .inr (.inr ⟨‹_›, rfl⟩)
    · exact .inr (.inl ⟨by omega, by omega, rfl⟩)

/-- Sampling moves the phase, the place and the join-quiet count alone. -/
theorem sampleOn_eq (s : State) (levels : List Level) (phase : LiuPhase) :
    sampleOn s levels phase = { s with liu := { s.liu with
      phase := phase, sampled := s.liu.sampled ++ levels
      joinQuiet := if s.lifecycle = .joining then recessiveRun s.liu.joinQuiet levels else s.liu.joinQuiet } } := by
  unfold sampleOn countJoinQuiet
  split <;> rfl

/-- R40's law: where the station may not answer it drives nothing. -/
theorem drives_of_not_answers {s : State} (h : answers s = false) : s.drives = true := by
  simp [State.drives, h]

/-- Only IDLE, SENDING, WINDOW and ABORTING drive the line dominant (R39). -/
theorem phase_of_drives {s : State} (h : s.drives = false) :
    answers s = true ∧
      (s.liu.phase = .idle ∨ s.liu.phase = .sending ∨ s.liu.phase = .window ∨ s.liu.phase = .aborting) := by
  unfold State.drives at h
  split at h
  · next ha => refine ⟨ha, ?_⟩; cases hp : s.liu.phase <;> simp_all
  · cases h

end Sys2Proof.Machine
end

