-- ==== Sys2Proof/Laws/State.lean ====
section
/-! SUPPORT. One lemma for each field after each update of the state, so that no later proof unfolds an update. -/

namespace Sys2Proof.Machine

/-! ### Reading after an update of one entry, of every entry, of every roster record -/

@[simp] theorem State.modRt_rt_self (s : State) (i : EntryIx) (f : Runtime → Runtime) :
    (s.modRt i f).rt i = f (s.rt i) := by simp [State.modRt, State.rt]

theorem State.modRt_rt (s : State) (i j : EntryIx) (f : Runtime → Runtime) :
    (s.modRt i f).rt j = if j = i then f (s.rt j) else s.rt j := by
  simp only [State.modRt, State.rt, Fin.getElem_fin, Vector.getElem_set]
  by_cases h : j = i
  · simp [h]
  · rw [if_neg h, if_neg fun h' => h (Fin.ext h'.symm)]

theorem State.modRt_rt_ne (s : State) {i j : EntryIx} (f : Runtime → Runtime) (h : j ≠ i) :
    (s.modRt i f).rt j = s.rt j := by rw [State.modRt_rt, if_neg h]

@[simp] theorem State.modRt_cfg (s : State) (i j : EntryIx) (f : Runtime → Runtime) :
    (s.modRt i f).cfg j = s.cfg j := by
  simp only [State.modRt, State.cfg, Fin.getElem_fin, Vector.getElem_set]
  split
  · next h => simp [h]
  · rfl

@[simp] theorem State.mapRt_rt (s : State) (f : EntryIx → ItemConfig → Runtime → Runtime) (j : EntryIx) :
    (s.mapRt f).rt j = f j (s.cfg j) (s.rt j) := by simp [State.mapRt, State.rt, State.cfg]

@[simp] theorem State.mapRt_cfg (s : State) (f : EntryIx → ItemConfig → Runtime → Runtime) (j : EntryIx) :
    (s.mapRt f).cfg j = s.cfg j := by simp [State.mapRt, State.cfg]

@[simp] theorem State.setEntry_self (s : State) (i : EntryIx) (e : Entry) :
    (s.setEntry i e).cfg i = e.cfg ∧ (s.setEntry i e).rt i = e.rt := by
  simp [State.setEntry, State.cfg, State.rt]

theorem State.setEntry_ne (s : State) {i j : EntryIx} (e : Entry) (h : j ≠ i) :
    (s.setEntry i e).cfg j = s.cfg j ∧ (s.setEntry i e).rt j = s.rt j := by
  have : i.val ≠ j.val := fun h' => h (Fin.ext h'.symm)
  simp [State.setEntry, State.cfg, State.rt, this]

@[simp] theorem State.mapRoster_record (s : State) (f : Station → RosterRecord → RosterRecord) (st : Station) :
    (s.mapRoster f).record st = f st (s.record st) := by simp [State.mapRoster, State.record]

/-! ### Two states with the same entries, or the same roster, read the same -/

theorem State.rt_congr {s t : State} (h : s.entries = t.entries) (i : EntryIx) : s.rt i = t.rt i := by
  simp [State.rt, h]

theorem State.cfg_congr {s t : State} (h : s.entries = t.entries) (i : EntryIx) : s.cfg i = t.cfg i := by
  simp [State.cfg, h]

theorem State.record_congr {s t : State} (h : s.roster = t.roster) (st : Station) : s.record st = t.record st := by
  simp [State.record, h]

/-- An entry is its configuration part and its runtime part. -/
theorem State.entry_eq (s : State) (i : EntryIx) : s.entries[i] = ⟨s.cfg i, s.rt i⟩ := rfl

/-- Changing the runtime part of one entry, written out. -/
theorem State.modRt_eq (s : State) (i : EntryIx) (f : Runtime → Runtime) :
    s.modRt i f = { s with entries := s.entries.set i ⟨s.cfg i, f (s.rt i)⟩ } := rfl

/-- A change that leaves the entry's runtime part as it is changes nothing. -/
theorem State.modRt_of_eq (s : State) (i : EntryIx) (f : Runtime → Runtime) (h : f (s.rt i) = s.rt i) :
    s.modRt i f = s := by
  have : s.entries.set i ⟨s.cfg i, f (s.rt i)⟩ = s.entries := by
    rw [h, ← State.entry_eq]; simp
  rw [State.modRt_eq, this]

/-- Two changes of one entry are one. -/
@[simp] theorem State.modRt_modRt (s : State) (i : EntryIx) (f g : Runtime → Runtime) :
    (s.modRt i f).modRt i g = s.modRt i fun r => g (f r) := by
  simp [State.modRt]

/-! ### Every other field -/

@[simp] theorem State.modRt_liu (s : State) (i : EntryIx) (f : Runtime → Runtime) :
    (s.modRt i f).liu = s.liu := by simp only [State.modRt]
@[simp] theorem State.modRt_verdict (s : State) (i : EntryIx) (f : Runtime → Runtime) :
    (s.modRt i f).verdict = s.verdict := by simp only [State.modRt]
@[simp] theorem State.modRt_announce (s : State) (i : EntryIx) (f : Runtime → Runtime) :
    (s.modRt i f).announce = s.announce := by simp only [State.modRt]
@[simp] theorem State.modRt_inFlight (s : State) (i : EntryIx) (f : Runtime → Runtime) :
    (s.modRt i f).inFlight = s.inFlight := by simp only [State.modRt]
@[simp] theorem State.modRt_pulls (s : State) (i : EntryIx) (f : Runtime → Runtime) :
    (s.modRt i f).pulls = s.pulls := by simp only [State.modRt]
@[simp] theorem State.modRt_roster (s : State) (i : EntryIx) (f : Runtime → Runtime) :
    (s.modRt i f).roster = s.roster := by simp only [State.modRt]
@[simp] theorem State.modRt_announceTimer (s : State) (i : EntryIx) (f : Runtime → Runtime) :
    (s.modRt i f).announceTimer = s.announceTimer := by simp only [State.modRt]
@[simp] theorem State.modRt_fcu (s : State) (i : EntryIx) (f : Runtime → Runtime) :
    (s.modRt i f).fcu = s.fcu := by simp only [State.modRt]
@[simp] theorem State.modRt_notices (s : State) (i : EntryIx) (f : Runtime → Runtime) :
    (s.modRt i f).notices = s.notices := by simp only [State.modRt]
@[simp] theorem State.modRt_flags (s : State) (i : EntryIx) (f : Runtime → Runtime) :
    (s.modRt i f).flags = s.flags := by simp only [State.modRt]
@[simp] theorem State.modRt_lifecycle (s : State) (i : EntryIx) (f : Runtime → Runtime) :
    (s.modRt i f).lifecycle = s.lifecycle := by simp only [State.modRt]
@[simp] theorem State.modRt_params (s : State) (i : EntryIx) (f : Runtime → Runtime) :
    (s.modRt i f).params = s.params := by simp only [State.modRt]
@[simp] theorem State.modRt_time (s : State) (i : EntryIx) (f : Runtime → Runtime) :
    (s.modRt i f).time = s.time := by simp only [State.modRt]
@[simp] theorem State.modRt_reply (s : State) (i : EntryIx) (f : Runtime → Runtime) :
    (s.modRt i f).reply = s.reply := by simp only [State.modRt]
@[simp] theorem State.modRt_shiftedOut (s : State) (i : EntryIx) (f : Runtime → Runtime) :
    (s.modRt i f).shiftedOut = s.shiftedOut := by simp only [State.modRt]
@[simp] theorem State.modRt_draws (s : State) (i : EntryIx) (f : Runtime → Runtime) :
    (s.modRt i f).draws = s.draws := by simp only [State.modRt]
@[simp] theorem State.modRt_pending (s : State) (i : EntryIx) (f : Runtime → Runtime) :
    (s.modRt i f).pending = s.pending := by simp only [State.modRt]

@[simp] theorem State.mapRt_liu (s : State) (f : EntryIx → ItemConfig → Runtime → Runtime) :
    (s.mapRt f).liu = s.liu := by simp only [State.mapRt]
@[simp] theorem State.mapRt_verdict (s : State) (f : EntryIx → ItemConfig → Runtime → Runtime) :
    (s.mapRt f).verdict = s.verdict := by simp only [State.mapRt]
@[simp] theorem State.mapRt_announce (s : State) (f : EntryIx → ItemConfig → Runtime → Runtime) :
    (s.mapRt f).announce = s.announce := by simp only [State.mapRt]
@[simp] theorem State.mapRt_inFlight (s : State) (f : EntryIx → ItemConfig → Runtime → Runtime) :
    (s.mapRt f).inFlight = s.inFlight := by simp only [State.mapRt]
@[simp] theorem State.mapRt_pulls (s : State) (f : EntryIx → ItemConfig → Runtime → Runtime) :
    (s.mapRt f).pulls = s.pulls := by simp only [State.mapRt]
@[simp] theorem State.mapRt_roster (s : State) (f : EntryIx → ItemConfig → Runtime → Runtime) :
    (s.mapRt f).roster = s.roster := by simp only [State.mapRt]
@[simp] theorem State.mapRt_announceTimer (s : State) (f : EntryIx → ItemConfig → Runtime → Runtime) :
    (s.mapRt f).announceTimer = s.announceTimer := by simp only [State.mapRt]
@[simp] theorem State.mapRt_fcu (s : State) (f : EntryIx → ItemConfig → Runtime → Runtime) :
    (s.mapRt f).fcu = s.fcu := by simp only [State.mapRt]
@[simp] theorem State.mapRt_notices (s : State) (f : EntryIx → ItemConfig → Runtime → Runtime) :
    (s.mapRt f).notices = s.notices := by simp only [State.mapRt]
@[simp] theorem State.mapRt_flags (s : State) (f : EntryIx → ItemConfig → Runtime → Runtime) :
    (s.mapRt f).flags = s.flags := by simp only [State.mapRt]
@[simp] theorem State.mapRt_lifecycle (s : State) (f : EntryIx → ItemConfig → Runtime → Runtime) :
    (s.mapRt f).lifecycle = s.lifecycle := by simp only [State.mapRt]
@[simp] theorem State.mapRt_params (s : State) (f : EntryIx → ItemConfig → Runtime → Runtime) :
    (s.mapRt f).params = s.params := by simp only [State.mapRt]
@[simp] theorem State.mapRt_time (s : State) (f : EntryIx → ItemConfig → Runtime → Runtime) :
    (s.mapRt f).time = s.time := by simp only [State.mapRt]
@[simp] theorem State.mapRt_reply (s : State) (f : EntryIx → ItemConfig → Runtime → Runtime) :
    (s.mapRt f).reply = s.reply := by simp only [State.mapRt]
@[simp] theorem State.mapRt_shiftedOut (s : State) (f : EntryIx → ItemConfig → Runtime → Runtime) :
    (s.mapRt f).shiftedOut = s.shiftedOut := by simp only [State.mapRt]
@[simp] theorem State.mapRt_draws (s : State) (f : EntryIx → ItemConfig → Runtime → Runtime) :
    (s.mapRt f).draws = s.draws := by simp only [State.mapRt]
@[simp] theorem State.mapRt_pending (s : State) (f : EntryIx → ItemConfig → Runtime → Runtime) :
    (s.mapRt f).pending = s.pending := by simp only [State.mapRt]

@[simp] theorem State.setEntry_liu (s : State) (i : EntryIx) (e : Entry) :
    (s.setEntry i e).liu = s.liu := by simp only [State.setEntry]
@[simp] theorem State.setEntry_verdict (s : State) (i : EntryIx) (e : Entry) :
    (s.setEntry i e).verdict = s.verdict := by simp only [State.setEntry]
@[simp] theorem State.setEntry_announce (s : State) (i : EntryIx) (e : Entry) :
    (s.setEntry i e).announce = s.announce := by simp only [State.setEntry]
@[simp] theorem State.setEntry_inFlight (s : State) (i : EntryIx) (e : Entry) :
    (s.setEntry i e).inFlight = s.inFlight := by simp only [State.setEntry]
@[simp] theorem State.setEntry_pulls (s : State) (i : EntryIx) (e : Entry) :
    (s.setEntry i e).pulls = s.pulls := by simp only [State.setEntry]
@[simp] theorem State.setEntry_roster (s : State) (i : EntryIx) (e : Entry) :
    (s.setEntry i e).roster = s.roster := by simp only [State.setEntry]
@[simp] theorem State.setEntry_announceTimer (s : State) (i : EntryIx) (e : Entry) :
    (s.setEntry i e).announceTimer = s.announceTimer := by simp only [State.setEntry]
@[simp] theorem State.setEntry_fcu (s : State) (i : EntryIx) (e : Entry) :
    (s.setEntry i e).fcu = s.fcu := by simp only [State.setEntry]
@[simp] theorem State.setEntry_notices (s : State) (i : EntryIx) (e : Entry) :
    (s.setEntry i e).notices = s.notices := by simp only [State.setEntry]
@[simp] theorem State.setEntry_flags (s : State) (i : EntryIx) (e : Entry) :
    (s.setEntry i e).flags = s.flags := by simp only [State.setEntry]
@[simp] theorem State.setEntry_lifecycle (s : State) (i : EntryIx) (e : Entry) :
    (s.setEntry i e).lifecycle = s.lifecycle := by simp only [State.setEntry]
@[simp] theorem State.setEntry_params (s : State) (i : EntryIx) (e : Entry) :
    (s.setEntry i e).params = s.params := by simp only [State.setEntry]
@[simp] theorem State.setEntry_time (s : State) (i : EntryIx) (e : Entry) :
    (s.setEntry i e).time = s.time := by simp only [State.setEntry]
@[simp] theorem State.setEntry_reply (s : State) (i : EntryIx) (e : Entry) :
    (s.setEntry i e).reply = s.reply := by simp only [State.setEntry]
@[simp] theorem State.setEntry_shiftedOut (s : State) (i : EntryIx) (e : Entry) :
    (s.setEntry i e).shiftedOut = s.shiftedOut := by simp only [State.setEntry]
@[simp] theorem State.setEntry_draws (s : State) (i : EntryIx) (e : Entry) :
    (s.setEntry i e).draws = s.draws := by simp only [State.setEntry]
@[simp] theorem State.setEntry_pending (s : State) (i : EntryIx) (e : Entry) :
    (s.setEntry i e).pending = s.pending := by simp only [State.setEntry]

@[simp] theorem State.mapRoster_entries (s : State) (f : Station → RosterRecord → RosterRecord) :
    (s.mapRoster f).entries = s.entries := by simp only [State.mapRoster]
@[simp] theorem State.mapRoster_liu (s : State) (f : Station → RosterRecord → RosterRecord) :
    (s.mapRoster f).liu = s.liu := by simp only [State.mapRoster]
@[simp] theorem State.mapRoster_verdict (s : State) (f : Station → RosterRecord → RosterRecord) :
    (s.mapRoster f).verdict = s.verdict := by simp only [State.mapRoster]
@[simp] theorem State.mapRoster_announce (s : State) (f : Station → RosterRecord → RosterRecord) :
    (s.mapRoster f).announce = s.announce := by simp only [State.mapRoster]
@[simp] theorem State.mapRoster_inFlight (s : State) (f : Station → RosterRecord → RosterRecord) :
    (s.mapRoster f).inFlight = s.inFlight := by simp only [State.mapRoster]
@[simp] theorem State.mapRoster_pulls (s : State) (f : Station → RosterRecord → RosterRecord) :
    (s.mapRoster f).pulls = s.pulls := by simp only [State.mapRoster]
@[simp] theorem State.mapRoster_announceTimer (s : State) (f : Station → RosterRecord → RosterRecord) :
    (s.mapRoster f).announceTimer = s.announceTimer := by simp only [State.mapRoster]
@[simp] theorem State.mapRoster_fcu (s : State) (f : Station → RosterRecord → RosterRecord) :
    (s.mapRoster f).fcu = s.fcu := by simp only [State.mapRoster]
@[simp] theorem State.mapRoster_notices (s : State) (f : Station → RosterRecord → RosterRecord) :
    (s.mapRoster f).notices = s.notices := by simp only [State.mapRoster]
@[simp] theorem State.mapRoster_flags (s : State) (f : Station → RosterRecord → RosterRecord) :
    (s.mapRoster f).flags = s.flags := by simp only [State.mapRoster]
@[simp] theorem State.mapRoster_lifecycle (s : State) (f : Station → RosterRecord → RosterRecord) :
    (s.mapRoster f).lifecycle = s.lifecycle := by simp only [State.mapRoster]
@[simp] theorem State.mapRoster_params (s : State) (f : Station → RosterRecord → RosterRecord) :
    (s.mapRoster f).params = s.params := by simp only [State.mapRoster]
@[simp] theorem State.mapRoster_time (s : State) (f : Station → RosterRecord → RosterRecord) :
    (s.mapRoster f).time = s.time := by simp only [State.mapRoster]
@[simp] theorem State.mapRoster_reply (s : State) (f : Station → RosterRecord → RosterRecord) :
    (s.mapRoster f).reply = s.reply := by simp only [State.mapRoster]
@[simp] theorem State.mapRoster_shiftedOut (s : State) (f : Station → RosterRecord → RosterRecord) :
    (s.mapRoster f).shiftedOut = s.shiftedOut := by simp only [State.mapRoster]
@[simp] theorem State.mapRoster_draws (s : State) (f : Station → RosterRecord → RosterRecord) :
    (s.mapRoster f).draws = s.draws := by simp only [State.mapRoster]
@[simp] theorem State.mapRoster_pending (s : State) (f : Station → RosterRecord → RosterRecord) :
    (s.mapRoster f).pending = s.pending := by simp only [State.mapRoster]

@[simp] theorem State.withPending_entries (s : State) (q : List Instr) :
    (s.withPending q).entries = s.entries := by simp only [State.withPending]
@[simp] theorem State.withPending_liu (s : State) (q : List Instr) :
    (s.withPending q).liu = s.liu := by simp only [State.withPending]
@[simp] theorem State.withPending_verdict (s : State) (q : List Instr) :
    (s.withPending q).verdict = s.verdict := by simp only [State.withPending]
@[simp] theorem State.withPending_announce (s : State) (q : List Instr) :
    (s.withPending q).announce = s.announce := by simp only [State.withPending]
@[simp] theorem State.withPending_inFlight (s : State) (q : List Instr) :
    (s.withPending q).inFlight = s.inFlight := by simp only [State.withPending]
@[simp] theorem State.withPending_pulls (s : State) (q : List Instr) :
    (s.withPending q).pulls = s.pulls := by simp only [State.withPending]
@[simp] theorem State.withPending_roster (s : State) (q : List Instr) :
    (s.withPending q).roster = s.roster := by simp only [State.withPending]
@[simp] theorem State.withPending_announceTimer (s : State) (q : List Instr) :
    (s.withPending q).announceTimer = s.announceTimer := by simp only [State.withPending]
@[simp] theorem State.withPending_fcu (s : State) (q : List Instr) :
    (s.withPending q).fcu = s.fcu := by simp only [State.withPending]
@[simp] theorem State.withPending_notices (s : State) (q : List Instr) :
    (s.withPending q).notices = s.notices := by simp only [State.withPending]
@[simp] theorem State.withPending_flags (s : State) (q : List Instr) :
    (s.withPending q).flags = s.flags := by simp only [State.withPending]
@[simp] theorem State.withPending_lifecycle (s : State) (q : List Instr) :
    (s.withPending q).lifecycle = s.lifecycle := by simp only [State.withPending]
@[simp] theorem State.withPending_params (s : State) (q : List Instr) :
    (s.withPending q).params = s.params := by simp only [State.withPending]
@[simp] theorem State.withPending_time (s : State) (q : List Instr) :
    (s.withPending q).time = s.time := by simp only [State.withPending]
@[simp] theorem State.withPending_reply (s : State) (q : List Instr) :
    (s.withPending q).reply = s.reply := by simp only [State.withPending]
@[simp] theorem State.withPending_shiftedOut (s : State) (q : List Instr) :
    (s.withPending q).shiftedOut = s.shiftedOut := by simp only [State.withPending]
@[simp] theorem State.withPending_draws (s : State) (q : List Instr) :
    (s.withPending q).draws = s.draws := by simp only [State.withPending]

@[simp] theorem setFlag_entries (s : State) (n : StationNotice) :
    (setFlag s n).entries = s.entries := by simp only [setFlag]
@[simp] theorem setFlag_liu (s : State) (n : StationNotice) :
    (setFlag s n).liu = s.liu := by simp only [setFlag]
@[simp] theorem setFlag_verdict (s : State) (n : StationNotice) :
    (setFlag s n).verdict = s.verdict := by simp only [setFlag]
@[simp] theorem setFlag_announce (s : State) (n : StationNotice) :
    (setFlag s n).announce = s.announce := by simp only [setFlag]
@[simp] theorem setFlag_inFlight (s : State) (n : StationNotice) :
    (setFlag s n).inFlight = s.inFlight := by simp only [setFlag]
@[simp] theorem setFlag_pulls (s : State) (n : StationNotice) :
    (setFlag s n).pulls = s.pulls := by simp only [setFlag]
@[simp] theorem setFlag_roster (s : State) (n : StationNotice) :
    (setFlag s n).roster = s.roster := by simp only [setFlag]
@[simp] theorem setFlag_announceTimer (s : State) (n : StationNotice) :
    (setFlag s n).announceTimer = s.announceTimer := by simp only [setFlag]
@[simp] theorem setFlag_fcu (s : State) (n : StationNotice) :
    (setFlag s n).fcu = s.fcu := by simp only [setFlag]
@[simp] theorem setFlag_notices (s : State) (n : StationNotice) :
    (setFlag s n).notices = s.notices := by simp only [setFlag]
@[simp] theorem setFlag_lifecycle (s : State) (n : StationNotice) :
    (setFlag s n).lifecycle = s.lifecycle := by simp only [setFlag]
@[simp] theorem setFlag_params (s : State) (n : StationNotice) :
    (setFlag s n).params = s.params := by simp only [setFlag]
@[simp] theorem setFlag_time (s : State) (n : StationNotice) :
    (setFlag s n).time = s.time := by simp only [setFlag]
@[simp] theorem setFlag_reply (s : State) (n : StationNotice) :
    (setFlag s n).reply = s.reply := by simp only [setFlag]
@[simp] theorem setFlag_shiftedOut (s : State) (n : StationNotice) :
    (setFlag s n).shiftedOut = s.shiftedOut := by simp only [setFlag]
@[simp] theorem setFlag_draws (s : State) (n : StationNotice) :
    (setFlag s n).draws = s.draws := by simp only [setFlag]
@[simp] theorem setFlag_pending (s : State) (n : StationNotice) :
    (setFlag s n).pending = s.pending := by simp only [setFlag]

@[simp] theorem modPull_entries (s : State) (i : EntryIx) (f : PullRecord → PullRecord) :
    (modPull s i f).entries = s.entries := by simp only [modPull]
@[simp] theorem modPull_liu (s : State) (i : EntryIx) (f : PullRecord → PullRecord) :
    (modPull s i f).liu = s.liu := by simp only [modPull]
@[simp] theorem modPull_verdict (s : State) (i : EntryIx) (f : PullRecord → PullRecord) :
    (modPull s i f).verdict = s.verdict := by simp only [modPull]
@[simp] theorem modPull_announce (s : State) (i : EntryIx) (f : PullRecord → PullRecord) :
    (modPull s i f).announce = s.announce := by simp only [modPull]
@[simp] theorem modPull_inFlight (s : State) (i : EntryIx) (f : PullRecord → PullRecord) :
    (modPull s i f).inFlight = s.inFlight := by simp only [modPull]
@[simp] theorem modPull_roster (s : State) (i : EntryIx) (f : PullRecord → PullRecord) :
    (modPull s i f).roster = s.roster := by simp only [modPull]
@[simp] theorem modPull_announceTimer (s : State) (i : EntryIx) (f : PullRecord → PullRecord) :
    (modPull s i f).announceTimer = s.announceTimer := by simp only [modPull]
@[simp] theorem modPull_fcu (s : State) (i : EntryIx) (f : PullRecord → PullRecord) :
    (modPull s i f).fcu = s.fcu := by simp only [modPull]
@[simp] theorem modPull_notices (s : State) (i : EntryIx) (f : PullRecord → PullRecord) :
    (modPull s i f).notices = s.notices := by simp only [modPull]
@[simp] theorem modPull_flags (s : State) (i : EntryIx) (f : PullRecord → PullRecord) :
    (modPull s i f).flags = s.flags := by simp only [modPull]
@[simp] theorem modPull_lifecycle (s : State) (i : EntryIx) (f : PullRecord → PullRecord) :
    (modPull s i f).lifecycle = s.lifecycle := by simp only [modPull]
@[simp] theorem modPull_params (s : State) (i : EntryIx) (f : PullRecord → PullRecord) :
    (modPull s i f).params = s.params := by simp only [modPull]
@[simp] theorem modPull_time (s : State) (i : EntryIx) (f : PullRecord → PullRecord) :
    (modPull s i f).time = s.time := by simp only [modPull]
@[simp] theorem modPull_reply (s : State) (i : EntryIx) (f : PullRecord → PullRecord) :
    (modPull s i f).reply = s.reply := by simp only [modPull]
@[simp] theorem modPull_shiftedOut (s : State) (i : EntryIx) (f : PullRecord → PullRecord) :
    (modPull s i f).shiftedOut = s.shiftedOut := by simp only [modPull]
@[simp] theorem modPull_draws (s : State) (i : EntryIx) (f : PullRecord → PullRecord) :
    (modPull s i f).draws = s.draws := by simp only [modPull]
@[simp] theorem modPull_pending (s : State) (i : EntryIx) (f : PullRecord → PullRecord) :
    (modPull s i f).pending = s.pending := by simp only [modPull]

@[simp] theorem noteFault_entries (s : State) (k : FaultKind) :
    (noteFault s k).entries = s.entries := by simp only [noteFault]
@[simp] theorem noteFault_liu (s : State) (k : FaultKind) :
    (noteFault s k).liu = s.liu := by simp only [noteFault]
@[simp] theorem noteFault_verdict (s : State) (k : FaultKind) :
    (noteFault s k).verdict = s.verdict := by simp only [noteFault]
@[simp] theorem noteFault_announce (s : State) (k : FaultKind) :
    (noteFault s k).announce = s.announce := by simp only [noteFault]
@[simp] theorem noteFault_inFlight (s : State) (k : FaultKind) :
    (noteFault s k).inFlight = s.inFlight := by simp only [noteFault]
@[simp] theorem noteFault_pulls (s : State) (k : FaultKind) :
    (noteFault s k).pulls = s.pulls := by simp only [noteFault]
@[simp] theorem noteFault_roster (s : State) (k : FaultKind) :
    (noteFault s k).roster = s.roster := by simp only [noteFault]
@[simp] theorem noteFault_announceTimer (s : State) (k : FaultKind) :
    (noteFault s k).announceTimer = s.announceTimer := by simp only [noteFault]
@[simp] theorem noteFault_notices (s : State) (k : FaultKind) :
    (noteFault s k).notices = s.notices := by simp only [noteFault]
@[simp] theorem noteFault_flags (s : State) (k : FaultKind) :
    (noteFault s k).flags = s.flags := by simp only [noteFault]
@[simp] theorem noteFault_lifecycle (s : State) (k : FaultKind) :
    (noteFault s k).lifecycle = s.lifecycle := by simp only [noteFault]
@[simp] theorem noteFault_params (s : State) (k : FaultKind) :
    (noteFault s k).params = s.params := by simp only [noteFault]
@[simp] theorem noteFault_time (s : State) (k : FaultKind) :
    (noteFault s k).time = s.time := by simp only [noteFault]
@[simp] theorem noteFault_reply (s : State) (k : FaultKind) :
    (noteFault s k).reply = s.reply := by simp only [noteFault]
@[simp] theorem noteFault_shiftedOut (s : State) (k : FaultKind) :
    (noteFault s k).shiftedOut = s.shiftedOut := by simp only [noteFault]
@[simp] theorem noteFault_draws (s : State) (k : FaultKind) :
    (noteFault s k).draws = s.draws := by simp only [noteFault]
@[simp] theorem noteFault_pending (s : State) (k : FaultKind) :
    (noteFault s k).pending = s.pending := by simp only [noteFault]

@[simp] theorem State.mapRoster_rt (s : State) (f : Station → RosterRecord → RosterRecord) (j : EntryIx) :
    (s.mapRoster f).rt j = s.rt j := by simp only [State.mapRoster, State.rt]
@[simp] theorem State.mapRoster_cfg (s : State) (f : Station → RosterRecord → RosterRecord) (j : EntryIx) :
    (s.mapRoster f).cfg j = s.cfg j := by simp only [State.mapRoster, State.cfg]
@[simp] theorem State.withPending_rt (s : State) (q : List Instr) (j : EntryIx) :
    (s.withPending q).rt j = s.rt j := by simp only [State.withPending, State.rt]
@[simp] theorem State.withPending_cfg (s : State) (q : List Instr) (j : EntryIx) :
    (s.withPending q).cfg j = s.cfg j := by simp only [State.withPending, State.cfg]
@[simp] theorem setFlag_rt (s : State) (n : StationNotice) (j : EntryIx) :
    (setFlag s n).rt j = s.rt j := by simp only [setFlag, State.rt]
@[simp] theorem setFlag_cfg (s : State) (n : StationNotice) (j : EntryIx) :
    (setFlag s n).cfg j = s.cfg j := by simp only [setFlag, State.cfg]
@[simp] theorem modPull_rt (s : State) (i : EntryIx) (f : PullRecord → PullRecord) (j : EntryIx) :
    (modPull s i f).rt j = s.rt j := by simp only [modPull, State.rt]
@[simp] theorem modPull_cfg (s : State) (i : EntryIx) (f : PullRecord → PullRecord) (j : EntryIx) :
    (modPull s i f).cfg j = s.cfg j := by simp only [modPull, State.cfg]
@[simp] theorem noteFault_rt (s : State) (k : FaultKind) (j : EntryIx) :
    (noteFault s k).rt j = s.rt j := by simp only [noteFault, State.rt]
@[simp] theorem noteFault_cfg (s : State) (k : FaultKind) (j : EntryIx) :
    (noteFault s k).cfg j = s.cfg j := by simp only [noteFault, State.cfg]

@[simp] theorem State.modRt_record (s : State) (i : EntryIx) (f : Runtime → Runtime) (st : Station) :
    (s.modRt i f).record st = s.record st := by simp only [State.modRt, State.record]
@[simp] theorem State.mapRt_record (s : State) (f : EntryIx → ItemConfig → Runtime → Runtime) (st : Station) :
    (s.mapRt f).record st = s.record st := by simp only [State.mapRt, State.record]
@[simp] theorem State.setEntry_record (s : State) (i : EntryIx) (e : Entry) (st : Station) :
    (s.setEntry i e).record st = s.record st := by simp only [State.setEntry, State.record]
@[simp] theorem State.withPending_record (s : State) (q : List Instr) (st : Station) :
    (s.withPending q).record st = s.record st := by simp only [State.withPending, State.record]
@[simp] theorem setFlag_record (s : State) (n : StationNotice) (st : Station) :
    (setFlag s n).record st = s.record st := by simp only [setFlag, State.record]
@[simp] theorem modPull_record (s : State) (i : EntryIx) (f : PullRecord → PullRecord) (st : Station) :
    (modPull s i f).record st = s.record st := by simp only [modPull, State.record]
@[simp] theorem noteFault_record (s : State) (k : FaultKind) (st : Station) :
    (noteFault s k).record st = s.record st := by simp only [noteFault, State.record]

/-! ### The reply of a transaction -/

@[simp] theorem withReply_entries (s : State) (ops : List Byte) (t : State) (r : List Byte) :
    (withReply s ops t r).entries = t.entries := by simp only [withReply]
@[simp] theorem withReply_liu (s : State) (ops : List Byte) (t : State) (r : List Byte) :
    (withReply s ops t r).liu = t.liu := by simp only [withReply]
@[simp] theorem withReply_verdict (s : State) (ops : List Byte) (t : State) (r : List Byte) :
    (withReply s ops t r).verdict = t.verdict := by simp only [withReply]
@[simp] theorem withReply_announce (s : State) (ops : List Byte) (t : State) (r : List Byte) :
    (withReply s ops t r).announce = t.announce := by simp only [withReply]
@[simp] theorem withReply_inFlight (s : State) (ops : List Byte) (t : State) (r : List Byte) :
    (withReply s ops t r).inFlight = t.inFlight := by simp only [withReply]
@[simp] theorem withReply_pulls (s : State) (ops : List Byte) (t : State) (r : List Byte) :
    (withReply s ops t r).pulls = t.pulls := by simp only [withReply]
@[simp] theorem withReply_roster (s : State) (ops : List Byte) (t : State) (r : List Byte) :
    (withReply s ops t r).roster = t.roster := by simp only [withReply]
@[simp] theorem withReply_announceTimer (s : State) (ops : List Byte) (t : State) (r : List Byte) :
    (withReply s ops t r).announceTimer = t.announceTimer := by simp only [withReply]
@[simp] theorem withReply_fcu (s : State) (ops : List Byte) (t : State) (r : List Byte) :
    (withReply s ops t r).fcu = t.fcu := by simp only [withReply]
@[simp] theorem withReply_notices (s : State) (ops : List Byte) (t : State) (r : List Byte) :
    (withReply s ops t r).notices = t.notices := by simp only [withReply]
@[simp] theorem withReply_flags (s : State) (ops : List Byte) (t : State) (r : List Byte) :
    (withReply s ops t r).flags = t.flags := by simp only [withReply]
@[simp] theorem withReply_lifecycle (s : State) (ops : List Byte) (t : State) (r : List Byte) :
    (withReply s ops t r).lifecycle = t.lifecycle := by simp only [withReply]
@[simp] theorem withReply_params (s : State) (ops : List Byte) (t : State) (r : List Byte) :
    (withReply s ops t r).params = t.params := by simp only [withReply]
@[simp] theorem withReply_time (s : State) (ops : List Byte) (t : State) (r : List Byte) :
    (withReply s ops t r).time = t.time := by simp only [withReply]
@[simp] theorem withReply_draws (s : State) (ops : List Byte) (t : State) (r : List Byte) :
    (withReply s ops t r).draws = t.draws := by simp only [withReply]
@[simp] theorem withReply_pending (s : State) (ops : List Byte) (t : State) (r : List Byte) :
    (withReply s ops t r).pending = t.pending := by simp only [withReply]
@[simp] theorem withReply_reply (s : State) (ops : List Byte) (t : State) (r : List Byte) :
    (withReply s ops t r).reply = some r := rfl
@[simp] theorem withReply_shiftedOut (s : State) (ops : List Byte) (t : State) (r : List Byte) :
    (withReply s ops t r).shiftedOut = shiftOut s.reply (ops.length + 1) := rfl
@[simp] theorem withReply_rt (s : State) (ops : List Byte) (t : State) (r : List Byte) (j : EntryIx) :
    (withReply s ops t r).rt j = t.rt j := by simp only [withReply, State.rt]
@[simp] theorem withReply_cfg (s : State) (ops : List Byte) (t : State) (r : List Byte) (j : EntryIx) :
    (withReply s ops t r).cfg j = t.cfg j := by simp only [withReply, State.cfg]
@[simp] theorem withReply_record (s : State) (ops : List Byte) (t : State) (r : List Byte) (st : Station) :
    (withReply s ops t r).record st = t.record st := by simp only [withReply, State.record]

/-- The own number depends on the parameters alone. -/
theorem State.own_congr {s t : State} (h : s.params = t.params) : s.own = t.own := by simp [State.own, h]

/-- The own number, once SET-STATION has been accepted. -/
theorem State.own_of_params {s : State} {p : StationParams} (h : s.params = some p) : s.own = p.station := by
  simp [State.own, h]

/-- A duration parameter, once SET-STATION has been accepted. -/
theorem durationParam_of_params {s : State} {p : StationParams} (h : s.params = some p) (f : StationParams → Nat)
    (k : Nat) : durationParam s f k = f p := by simp [durationParam, h]

end Sys2Proof.Machine
end

