-- ==== Sys2Proof/Laws/Ops.lean ====
section
/-! SUPPORT. What each shared operation of the blocks can do: the fields it never touches, one lemma each, and what it
may change in an entry. -/

namespace Sys2Proof.Machine

/-! ### Folding an operation over a list -/

/-- A reading that one application keeps is kept by a fold. -/
theorem foldl_keeps {α β : Type} (read : State → β) (op : State → α → State)
    (h : ∀ s a, read (op s a) = read s) (l : List α) (s : State) : read (l.foldl op s) = read s := by
  induction l generalizing s with
  | nil => rfl
  | cons a l ih => rw [List.foldl_cons, ih, h]

/-- An invariant that one application keeps is kept by a fold. -/
theorem foldl_inv {α : Type} (P : State → Prop) (op : State → α → State)
    (h : ∀ s a, P s → P (op s a)) (l : List α) {s : State} (hs : P s) : P (l.foldl op s) := by
  induction l generalizing s with
  | nil => exact hs
  | cons a l ih => exact ih (h _ _ hs)

/-! ### Posting (R169) and refilling the queue (R172) -/

@[simp] theorem post_liu (s : State) (i : EntryIx) (rs : ReasonSet) :
    (post s i rs).liu = s.liu := by
  unfold post; repeat' split
  all_goals simp
@[simp] theorem post_verdict (s : State) (i : EntryIx) (rs : ReasonSet) :
    (post s i rs).verdict = s.verdict := by
  unfold post; repeat' split
  all_goals simp
@[simp] theorem post_announce (s : State) (i : EntryIx) (rs : ReasonSet) :
    (post s i rs).announce = s.announce := by
  unfold post; repeat' split
  all_goals simp
@[simp] theorem post_inFlight (s : State) (i : EntryIx) (rs : ReasonSet) :
    (post s i rs).inFlight = s.inFlight := by
  unfold post; repeat' split
  all_goals simp
@[simp] theorem post_pulls (s : State) (i : EntryIx) (rs : ReasonSet) :
    (post s i rs).pulls = s.pulls := by
  unfold post; repeat' split
  all_goals simp
@[simp] theorem post_roster (s : State) (i : EntryIx) (rs : ReasonSet) :
    (post s i rs).roster = s.roster := by
  unfold post; repeat' split
  all_goals simp
@[simp] theorem post_announceTimer (s : State) (i : EntryIx) (rs : ReasonSet) :
    (post s i rs).announceTimer = s.announceTimer := by
  unfold post; repeat' split
  all_goals simp
@[simp] theorem post_fcu (s : State) (i : EntryIx) (rs : ReasonSet) :
    (post s i rs).fcu = s.fcu := by
  unfold post; repeat' split
  all_goals simp
@[simp] theorem post_lifecycle (s : State) (i : EntryIx) (rs : ReasonSet) :
    (post s i rs).lifecycle = s.lifecycle := by
  unfold post; repeat' split
  all_goals simp
@[simp] theorem post_params (s : State) (i : EntryIx) (rs : ReasonSet) :
    (post s i rs).params = s.params := by
  unfold post; repeat' split
  all_goals simp
@[simp] theorem post_time (s : State) (i : EntryIx) (rs : ReasonSet) :
    (post s i rs).time = s.time := by
  unfold post; repeat' split
  all_goals simp
@[simp] theorem post_reply (s : State) (i : EntryIx) (rs : ReasonSet) :
    (post s i rs).reply = s.reply := by
  unfold post; repeat' split
  all_goals simp
@[simp] theorem post_shiftedOut (s : State) (i : EntryIx) (rs : ReasonSet) :
    (post s i rs).shiftedOut = s.shiftedOut := by
  unfold post; repeat' split
  all_goals simp
@[simp] theorem post_draws (s : State) (i : EntryIx) (rs : ReasonSet) :
    (post s i rs).draws = s.draws := by
  unfold post; repeat' split
  all_goals simp
@[simp] theorem post_pending (s : State) (i : EntryIx) (rs : ReasonSet) :
    (post s i rs).pending = s.pending := by
  unfold post; repeat' split
  all_goals simp
@[simp] theorem post_record (s : State) (i : EntryIx) (rs : ReasonSet) (who : Station) :
    (post s i rs).record who = s.record who := State.record_congr (by simp) who
@[simp] theorem post_own (s : State) (i : EntryIx) (rs : ReasonSet) :
    (post s i rs).own = s.own := State.own_congr (by simp)

@[simp] theorem post_cfg (s : State) (i : EntryIx) (rs : ReasonSet) (j : EntryIx) :
    (post s i rs).cfg j = s.cfg j := by
  unfold post; repeat' split
  all_goals first | rfl | simp

/-- A posting changes nothing of an entry but its deferred reasons. -/
theorem post_rt (s : State) (i j : EntryIx) (rs : ReasonSet) :
    (post s i rs).rt j = { s.rt j with deferred := ((post s i rs).rt j).deferred } := by
  unfold post
  repeat' split
  all_goals first
    | rfl
    | (rw [State.modRt_rt]; split <;> rfl)
    | (rw [setFlag_rt, State.modRt_rt]; split <;> rfl)

/-- The empty set is no posting. -/
@[simp] theorem post_zero (s : State) (i : EntryIx) : post s i 0#16 = s := by simp [post]

@[simp] theorem refillNotices_liu (s : State)  :
    (refillNotices s).liu = s.liu := by
  unfold refillNotices; repeat' split
  all_goals simp
@[simp] theorem refillNotices_verdict (s : State)  :
    (refillNotices s).verdict = s.verdict := by
  unfold refillNotices; repeat' split
  all_goals simp
@[simp] theorem refillNotices_announce (s : State)  :
    (refillNotices s).announce = s.announce := by
  unfold refillNotices; repeat' split
  all_goals simp
@[simp] theorem refillNotices_inFlight (s : State)  :
    (refillNotices s).inFlight = s.inFlight := by
  unfold refillNotices; repeat' split
  all_goals simp
@[simp] theorem refillNotices_pulls (s : State)  :
    (refillNotices s).pulls = s.pulls := by
  unfold refillNotices; repeat' split
  all_goals simp
@[simp] theorem refillNotices_roster (s : State)  :
    (refillNotices s).roster = s.roster := by
  unfold refillNotices; repeat' split
  all_goals simp
@[simp] theorem refillNotices_announceTimer (s : State)  :
    (refillNotices s).announceTimer = s.announceTimer := by
  unfold refillNotices; repeat' split
  all_goals simp
@[simp] theorem refillNotices_fcu (s : State)  :
    (refillNotices s).fcu = s.fcu := by
  unfold refillNotices; repeat' split
  all_goals simp
@[simp] theorem refillNotices_flags (s : State)  :
    (refillNotices s).flags = s.flags := by
  unfold refillNotices; repeat' split
  all_goals simp
@[simp] theorem refillNotices_lifecycle (s : State)  :
    (refillNotices s).lifecycle = s.lifecycle := by
  unfold refillNotices; repeat' split
  all_goals simp
@[simp] theorem refillNotices_params (s : State)  :
    (refillNotices s).params = s.params := by
  unfold refillNotices; repeat' split
  all_goals simp
@[simp] theorem refillNotices_time (s : State)  :
    (refillNotices s).time = s.time := by
  unfold refillNotices; repeat' split
  all_goals simp
@[simp] theorem refillNotices_reply (s : State)  :
    (refillNotices s).reply = s.reply := by
  unfold refillNotices; repeat' split
  all_goals simp
@[simp] theorem refillNotices_shiftedOut (s : State)  :
    (refillNotices s).shiftedOut = s.shiftedOut := by
  unfold refillNotices; repeat' split
  all_goals simp
@[simp] theorem refillNotices_draws (s : State)  :
    (refillNotices s).draws = s.draws := by
  unfold refillNotices; repeat' split
  all_goals simp
@[simp] theorem refillNotices_pending (s : State)  :
    (refillNotices s).pending = s.pending := by
  unfold refillNotices; repeat' split
  all_goals simp
@[simp] theorem refillNotices_record (s : State)  (who : Station) :
    (refillNotices s).record who = s.record who := State.record_congr (by simp) who
@[simp] theorem refillNotices_own (s : State)  :
    (refillNotices s).own = s.own := State.own_congr (by simp)

@[simp] theorem refillNotices_cfg (s : State)  (j : EntryIx) :
    (refillNotices s).cfg j = s.cfg j := by
  unfold refillNotices; split
  · rfl
  · next i _ => exact State.modRt_cfg s i j fun r => { r with deferred := none }

/-- A refill changes nothing of an entry but its deferred reasons. -/
theorem refillNotices_rt (s : State) (j : EntryIx) :
    (refillNotices s).rt j = { s.rt j with deferred := ((refillNotices s).rt j).deferred } := by
  unfold refillNotices
  split
  · rfl
  · next i _ =>
    show (s.modRt i fun r => { r with deferred := none }).rt j = { s.rt j with
      deferred := ((s.modRt i fun r => { r with deferred := none }).rt j).deferred }
    rw [State.modRt_rt]
    split <;> rfl

@[simp] theorem removeNotice_liu (s : State) (i : EntryIx) :
    (removeNotice s i).liu = s.liu := by
  unfold removeNotice; repeat' split
  all_goals simp
@[simp] theorem removeNotice_verdict (s : State) (i : EntryIx) :
    (removeNotice s i).verdict = s.verdict := by
  unfold removeNotice; repeat' split
  all_goals simp
@[simp] theorem removeNotice_announce (s : State) (i : EntryIx) :
    (removeNotice s i).announce = s.announce := by
  unfold removeNotice; repeat' split
  all_goals simp
@[simp] theorem removeNotice_inFlight (s : State) (i : EntryIx) :
    (removeNotice s i).inFlight = s.inFlight := by
  unfold removeNotice; repeat' split
  all_goals simp
@[simp] theorem removeNotice_pulls (s : State) (i : EntryIx) :
    (removeNotice s i).pulls = s.pulls := by
  unfold removeNotice; repeat' split
  all_goals simp
@[simp] theorem removeNotice_roster (s : State) (i : EntryIx) :
    (removeNotice s i).roster = s.roster := by
  unfold removeNotice; repeat' split
  all_goals simp
@[simp] theorem removeNotice_announceTimer (s : State) (i : EntryIx) :
    (removeNotice s i).announceTimer = s.announceTimer := by
  unfold removeNotice; repeat' split
  all_goals simp
@[simp] theorem removeNotice_fcu (s : State) (i : EntryIx) :
    (removeNotice s i).fcu = s.fcu := by
  unfold removeNotice; repeat' split
  all_goals simp
@[simp] theorem removeNotice_flags (s : State) (i : EntryIx) :
    (removeNotice s i).flags = s.flags := by
  unfold removeNotice; repeat' split
  all_goals simp
@[simp] theorem removeNotice_lifecycle (s : State) (i : EntryIx) :
    (removeNotice s i).lifecycle = s.lifecycle := by
  unfold removeNotice; repeat' split
  all_goals simp
@[simp] theorem removeNotice_params (s : State) (i : EntryIx) :
    (removeNotice s i).params = s.params := by
  unfold removeNotice; repeat' split
  all_goals simp
@[simp] theorem removeNotice_time (s : State) (i : EntryIx) :
    (removeNotice s i).time = s.time := by
  unfold removeNotice; repeat' split
  all_goals simp
@[simp] theorem removeNotice_reply (s : State) (i : EntryIx) :
    (removeNotice s i).reply = s.reply := by
  unfold removeNotice; repeat' split
  all_goals simp
@[simp] theorem removeNotice_shiftedOut (s : State) (i : EntryIx) :
    (removeNotice s i).shiftedOut = s.shiftedOut := by
  unfold removeNotice; repeat' split
  all_goals simp
@[simp] theorem removeNotice_draws (s : State) (i : EntryIx) :
    (removeNotice s i).draws = s.draws := by
  unfold removeNotice; repeat' split
  all_goals simp
@[simp] theorem removeNotice_pending (s : State) (i : EntryIx) :
    (removeNotice s i).pending = s.pending := by
  unfold removeNotice; repeat' split
  all_goals simp
@[simp] theorem removeNotice_record (s : State) (i : EntryIx) (who : Station) :
    (removeNotice s i).record who = s.record who := State.record_congr (by simp) who
@[simp] theorem removeNotice_own (s : State) (i : EntryIx) :
    (removeNotice s i).own = s.own := State.own_congr (by simp)

@[simp] theorem removeNotice_cfg (s : State) (i : EntryIx) (j : EntryIx) :
    (removeNotice s i).cfg j = s.cfg j := by
  unfold removeNotice; split
  · rw [refillNotices_cfg]; rfl
  · rfl

/-! ### Raising requests (R65, R66) -/

@[simp] theorem raisePublish_liu (s : State) (i : EntryIx) :
    (raisePublish s i).liu = s.liu := by
  simp only [raisePublish, State.modRt]
@[simp] theorem raisePublish_verdict (s : State) (i : EntryIx) :
    (raisePublish s i).verdict = s.verdict := by
  simp only [raisePublish, State.modRt]
@[simp] theorem raisePublish_announce (s : State) (i : EntryIx) :
    (raisePublish s i).announce = s.announce := by
  simp only [raisePublish, State.modRt]
@[simp] theorem raisePublish_inFlight (s : State) (i : EntryIx) :
    (raisePublish s i).inFlight = s.inFlight := by
  simp only [raisePublish, State.modRt]
@[simp] theorem raisePublish_pulls (s : State) (i : EntryIx) :
    (raisePublish s i).pulls = s.pulls := by
  simp only [raisePublish, State.modRt]
@[simp] theorem raisePublish_roster (s : State) (i : EntryIx) :
    (raisePublish s i).roster = s.roster := by
  simp only [raisePublish, State.modRt]
@[simp] theorem raisePublish_announceTimer (s : State) (i : EntryIx) :
    (raisePublish s i).announceTimer = s.announceTimer := by
  simp only [raisePublish, State.modRt]
@[simp] theorem raisePublish_fcu (s : State) (i : EntryIx) :
    (raisePublish s i).fcu = s.fcu := by
  simp only [raisePublish, State.modRt]
@[simp] theorem raisePublish_notices (s : State) (i : EntryIx) :
    (raisePublish s i).notices = s.notices := by
  simp only [raisePublish, State.modRt]
@[simp] theorem raisePublish_flags (s : State) (i : EntryIx) :
    (raisePublish s i).flags = s.flags := by
  simp only [raisePublish, State.modRt]
@[simp] theorem raisePublish_lifecycle (s : State) (i : EntryIx) :
    (raisePublish s i).lifecycle = s.lifecycle := by
  simp only [raisePublish, State.modRt]
@[simp] theorem raisePublish_params (s : State) (i : EntryIx) :
    (raisePublish s i).params = s.params := by
  simp only [raisePublish, State.modRt]
@[simp] theorem raisePublish_time (s : State) (i : EntryIx) :
    (raisePublish s i).time = s.time := by
  simp only [raisePublish, State.modRt]
@[simp] theorem raisePublish_reply (s : State) (i : EntryIx) :
    (raisePublish s i).reply = s.reply := by
  simp only [raisePublish, State.modRt]
@[simp] theorem raisePublish_shiftedOut (s : State) (i : EntryIx) :
    (raisePublish s i).shiftedOut = s.shiftedOut := by
  simp only [raisePublish, State.modRt]
@[simp] theorem raisePublish_draws (s : State) (i : EntryIx) :
    (raisePublish s i).draws = s.draws := by
  simp only [raisePublish, State.modRt]
@[simp] theorem raisePublish_pending (s : State) (i : EntryIx) :
    (raisePublish s i).pending = s.pending := by
  simp only [raisePublish, State.modRt]
@[simp] theorem raisePublish_record (s : State) (i : EntryIx) (who : Station) :
    (raisePublish s i).record who = s.record who := State.record_congr (by simp) who
@[simp] theorem raisePublish_own (s : State) (i : EntryIx) :
    (raisePublish s i).own = s.own := State.own_congr (by simp)

@[simp] theorem raisePublish_cfg (s : State) (i : EntryIx) (j : EntryIx) :
    (raisePublish s i).cfg j = s.cfg j := by
  unfold raisePublish; simp

@[simp] theorem raiseAnnounce_entries (s : State) (t : AnnounceType) :
    (raiseAnnounce s t).entries = s.entries := by
  simp only [raiseAnnounce]
@[simp] theorem raiseAnnounce_liu (s : State) (t : AnnounceType) :
    (raiseAnnounce s t).liu = s.liu := by
  simp only [raiseAnnounce]
@[simp] theorem raiseAnnounce_verdict (s : State) (t : AnnounceType) :
    (raiseAnnounce s t).verdict = s.verdict := by
  simp only [raiseAnnounce]
@[simp] theorem raiseAnnounce_inFlight (s : State) (t : AnnounceType) :
    (raiseAnnounce s t).inFlight = s.inFlight := by
  simp only [raiseAnnounce]
@[simp] theorem raiseAnnounce_pulls (s : State) (t : AnnounceType) :
    (raiseAnnounce s t).pulls = s.pulls := by
  simp only [raiseAnnounce]
@[simp] theorem raiseAnnounce_roster (s : State) (t : AnnounceType) :
    (raiseAnnounce s t).roster = s.roster := by
  simp only [raiseAnnounce]
@[simp] theorem raiseAnnounce_announceTimer (s : State) (t : AnnounceType) :
    (raiseAnnounce s t).announceTimer = s.announceTimer := by
  simp only [raiseAnnounce]
@[simp] theorem raiseAnnounce_fcu (s : State) (t : AnnounceType) :
    (raiseAnnounce s t).fcu = s.fcu := by
  simp only [raiseAnnounce]
@[simp] theorem raiseAnnounce_notices (s : State) (t : AnnounceType) :
    (raiseAnnounce s t).notices = s.notices := by
  simp only [raiseAnnounce]
@[simp] theorem raiseAnnounce_flags (s : State) (t : AnnounceType) :
    (raiseAnnounce s t).flags = s.flags := by
  simp only [raiseAnnounce]
@[simp] theorem raiseAnnounce_lifecycle (s : State) (t : AnnounceType) :
    (raiseAnnounce s t).lifecycle = s.lifecycle := by
  simp only [raiseAnnounce]
@[simp] theorem raiseAnnounce_params (s : State) (t : AnnounceType) :
    (raiseAnnounce s t).params = s.params := by
  simp only [raiseAnnounce]
@[simp] theorem raiseAnnounce_time (s : State) (t : AnnounceType) :
    (raiseAnnounce s t).time = s.time := by
  simp only [raiseAnnounce]
@[simp] theorem raiseAnnounce_reply (s : State) (t : AnnounceType) :
    (raiseAnnounce s t).reply = s.reply := by
  simp only [raiseAnnounce]
@[simp] theorem raiseAnnounce_shiftedOut (s : State) (t : AnnounceType) :
    (raiseAnnounce s t).shiftedOut = s.shiftedOut := by
  simp only [raiseAnnounce]
@[simp] theorem raiseAnnounce_draws (s : State) (t : AnnounceType) :
    (raiseAnnounce s t).draws = s.draws := by
  simp only [raiseAnnounce]
@[simp] theorem raiseAnnounce_pending (s : State) (t : AnnounceType) :
    (raiseAnnounce s t).pending = s.pending := by
  simp only [raiseAnnounce]
@[simp] theorem raiseAnnounce_record (s : State) (t : AnnounceType) (who : Station) :
    (raiseAnnounce s t).record who = s.record who := State.record_congr (by simp) who
@[simp] theorem raiseAnnounce_own (s : State) (t : AnnounceType) :
    (raiseAnnounce s t).own = s.own := State.own_congr (by simp)
@[simp] theorem raiseAnnounce_rt (s : State) (t : AnnounceType) (j : EntryIx) :
    (raiseAnnounce s t).rt j = s.rt j := State.rt_congr (by simp) j
@[simp] theorem raiseAnnounce_cfg (s : State) (t : AnnounceType) (j : EntryIx) :
    (raiseAnnounce s t).cfg j = s.cfg j := State.cfg_congr (by simp) j

@[simp] theorem raisePull_liu (s : State) (i : EntryIx) :
    (raisePull s i).liu = s.liu := by
  simp only [raisePull, State.modRt]
@[simp] theorem raisePull_verdict (s : State) (i : EntryIx) :
    (raisePull s i).verdict = s.verdict := by
  simp only [raisePull, State.modRt]
@[simp] theorem raisePull_announce (s : State) (i : EntryIx) :
    (raisePull s i).announce = s.announce := by
  simp only [raisePull, State.modRt]
@[simp] theorem raisePull_inFlight (s : State) (i : EntryIx) :
    (raisePull s i).inFlight = s.inFlight := by
  simp only [raisePull, State.modRt]
@[simp] theorem raisePull_pulls (s : State) (i : EntryIx) :
    (raisePull s i).pulls = s.pulls := by
  simp only [raisePull, State.modRt]
@[simp] theorem raisePull_roster (s : State) (i : EntryIx) :
    (raisePull s i).roster = s.roster := by
  simp only [raisePull, State.modRt]
@[simp] theorem raisePull_announceTimer (s : State) (i : EntryIx) :
    (raisePull s i).announceTimer = s.announceTimer := by
  simp only [raisePull, State.modRt]
@[simp] theorem raisePull_fcu (s : State) (i : EntryIx) :
    (raisePull s i).fcu = s.fcu := by
  simp only [raisePull, State.modRt]
@[simp] theorem raisePull_notices (s : State) (i : EntryIx) :
    (raisePull s i).notices = s.notices := by
  simp only [raisePull, State.modRt]
@[simp] theorem raisePull_flags (s : State) (i : EntryIx) :
    (raisePull s i).flags = s.flags := by
  simp only [raisePull, State.modRt]
@[simp] theorem raisePull_lifecycle (s : State) (i : EntryIx) :
    (raisePull s i).lifecycle = s.lifecycle := by
  simp only [raisePull, State.modRt]
@[simp] theorem raisePull_params (s : State) (i : EntryIx) :
    (raisePull s i).params = s.params := by
  simp only [raisePull, State.modRt]
@[simp] theorem raisePull_time (s : State) (i : EntryIx) :
    (raisePull s i).time = s.time := by
  simp only [raisePull, State.modRt]
@[simp] theorem raisePull_reply (s : State) (i : EntryIx) :
    (raisePull s i).reply = s.reply := by
  simp only [raisePull, State.modRt]
@[simp] theorem raisePull_shiftedOut (s : State) (i : EntryIx) :
    (raisePull s i).shiftedOut = s.shiftedOut := by
  simp only [raisePull, State.modRt]
@[simp] theorem raisePull_draws (s : State) (i : EntryIx) :
    (raisePull s i).draws = s.draws := by
  simp only [raisePull, State.modRt]
@[simp] theorem raisePull_pending (s : State) (i : EntryIx) :
    (raisePull s i).pending = s.pending := by
  simp only [raisePull, State.modRt]
@[simp] theorem raisePull_record (s : State) (i : EntryIx) (who : Station) :
    (raisePull s i).record who = s.record who := State.record_congr (by simp) who
@[simp] theorem raisePull_own (s : State) (i : EntryIx) :
    (raisePull s i).own = s.own := State.own_congr (by simp)

@[simp] theorem raisePull_cfg (s : State) (i : EntryIx) (j : EntryIx) :
    (raisePull s i).cfg j = s.cfg j := by
  unfold raisePull; simp

/-! ### The Pull Table (R95 to R98) -/

@[simp] theorem addPull_liu (s : State) (i : EntryIx) :
    (addPull s i).liu = s.liu := by
  unfold addPull; simp
@[simp] theorem addPull_verdict (s : State) (i : EntryIx) :
    (addPull s i).verdict = s.verdict := by
  unfold addPull; simp
@[simp] theorem addPull_announce (s : State) (i : EntryIx) :
    (addPull s i).announce = s.announce := by
  unfold addPull; simp
@[simp] theorem addPull_inFlight (s : State) (i : EntryIx) :
    (addPull s i).inFlight = s.inFlight := by
  unfold addPull; simp
@[simp] theorem addPull_roster (s : State) (i : EntryIx) :
    (addPull s i).roster = s.roster := by
  unfold addPull; simp
@[simp] theorem addPull_announceTimer (s : State) (i : EntryIx) :
    (addPull s i).announceTimer = s.announceTimer := by
  unfold addPull; simp
@[simp] theorem addPull_fcu (s : State) (i : EntryIx) :
    (addPull s i).fcu = s.fcu := by
  unfold addPull; simp
@[simp] theorem addPull_notices (s : State) (i : EntryIx) :
    (addPull s i).notices = s.notices := by
  unfold addPull; simp
@[simp] theorem addPull_flags (s : State) (i : EntryIx) :
    (addPull s i).flags = s.flags := by
  unfold addPull; simp
@[simp] theorem addPull_lifecycle (s : State) (i : EntryIx) :
    (addPull s i).lifecycle = s.lifecycle := by
  unfold addPull; simp
@[simp] theorem addPull_params (s : State) (i : EntryIx) :
    (addPull s i).params = s.params := by
  unfold addPull; simp
@[simp] theorem addPull_time (s : State) (i : EntryIx) :
    (addPull s i).time = s.time := by
  unfold addPull; simp
@[simp] theorem addPull_reply (s : State) (i : EntryIx) :
    (addPull s i).reply = s.reply := by
  unfold addPull; simp
@[simp] theorem addPull_shiftedOut (s : State) (i : EntryIx) :
    (addPull s i).shiftedOut = s.shiftedOut := by
  unfold addPull; simp
@[simp] theorem addPull_draws (s : State) (i : EntryIx) :
    (addPull s i).draws = s.draws := by
  unfold addPull; simp
@[simp] theorem addPull_pending (s : State) (i : EntryIx) :
    (addPull s i).pending = s.pending := by
  unfold addPull; simp
@[simp] theorem addPull_record (s : State) (i : EntryIx) (who : Station) :
    (addPull s i).record who = s.record who := State.record_congr (by simp) who
@[simp] theorem addPull_own (s : State) (i : EntryIx) :
    (addPull s i).own = s.own := State.own_congr (by simp)

@[simp] theorem addPull_cfg (s : State) (i : EntryIx) (j : EntryIx) :
    (addPull s i).cfg j = s.cfg j := by
  unfold addPull; rw [raisePull_cfg]; rfl

@[simp] theorem refillPulls_liu (s : State)  :
    (refillPulls s).liu = s.liu := by
  unfold refillPulls; repeat' split
  all_goals simp
@[simp] theorem refillPulls_verdict (s : State)  :
    (refillPulls s).verdict = s.verdict := by
  unfold refillPulls; repeat' split
  all_goals simp
@[simp] theorem refillPulls_announce (s : State)  :
    (refillPulls s).announce = s.announce := by
  unfold refillPulls; repeat' split
  all_goals simp
@[simp] theorem refillPulls_inFlight (s : State)  :
    (refillPulls s).inFlight = s.inFlight := by
  unfold refillPulls; repeat' split
  all_goals simp
@[simp] theorem refillPulls_roster (s : State)  :
    (refillPulls s).roster = s.roster := by
  unfold refillPulls; repeat' split
  all_goals simp
@[simp] theorem refillPulls_announceTimer (s : State)  :
    (refillPulls s).announceTimer = s.announceTimer := by
  unfold refillPulls; repeat' split
  all_goals simp
@[simp] theorem refillPulls_fcu (s : State)  :
    (refillPulls s).fcu = s.fcu := by
  unfold refillPulls; repeat' split
  all_goals simp
@[simp] theorem refillPulls_notices (s : State)  :
    (refillPulls s).notices = s.notices := by
  unfold refillPulls; repeat' split
  all_goals simp
@[simp] theorem refillPulls_flags (s : State)  :
    (refillPulls s).flags = s.flags := by
  unfold refillPulls; repeat' split
  all_goals simp
@[simp] theorem refillPulls_lifecycle (s : State)  :
    (refillPulls s).lifecycle = s.lifecycle := by
  unfold refillPulls; repeat' split
  all_goals simp
@[simp] theorem refillPulls_params (s : State)  :
    (refillPulls s).params = s.params := by
  unfold refillPulls; repeat' split
  all_goals simp
@[simp] theorem refillPulls_time (s : State)  :
    (refillPulls s).time = s.time := by
  unfold refillPulls; repeat' split
  all_goals simp
@[simp] theorem refillPulls_reply (s : State)  :
    (refillPulls s).reply = s.reply := by
  unfold refillPulls; repeat' split
  all_goals simp
@[simp] theorem refillPulls_shiftedOut (s : State)  :
    (refillPulls s).shiftedOut = s.shiftedOut := by
  unfold refillPulls; repeat' split
  all_goals simp
@[simp] theorem refillPulls_draws (s : State)  :
    (refillPulls s).draws = s.draws := by
  unfold refillPulls; repeat' split
  all_goals simp
@[simp] theorem refillPulls_pending (s : State)  :
    (refillPulls s).pending = s.pending := by
  unfold refillPulls; repeat' split
  all_goals simp
@[simp] theorem refillPulls_record (s : State)  (who : Station) :
    (refillPulls s).record who = s.record who := State.record_congr (by simp) who
@[simp] theorem refillPulls_own (s : State)  :
    (refillPulls s).own = s.own := State.own_congr (by simp)

@[simp] theorem refillPulls_cfg (s : State)  (j : EntryIx) :
    (refillPulls s).cfg j = s.cfg j := by
  unfold refillPulls; split <;> simp

@[simp] theorem removePull_liu (s : State) (i : EntryIx) :
    (removePull s i).liu = s.liu := by
  unfold removePull; repeat' split
  all_goals simp
@[simp] theorem removePull_verdict (s : State) (i : EntryIx) :
    (removePull s i).verdict = s.verdict := by
  unfold removePull; repeat' split
  all_goals simp
@[simp] theorem removePull_announce (s : State) (i : EntryIx) :
    (removePull s i).announce = s.announce := by
  unfold removePull; repeat' split
  all_goals simp
@[simp] theorem removePull_inFlight (s : State) (i : EntryIx) :
    (removePull s i).inFlight = s.inFlight := by
  unfold removePull; repeat' split
  all_goals simp
@[simp] theorem removePull_roster (s : State) (i : EntryIx) :
    (removePull s i).roster = s.roster := by
  unfold removePull; repeat' split
  all_goals simp
@[simp] theorem removePull_announceTimer (s : State) (i : EntryIx) :
    (removePull s i).announceTimer = s.announceTimer := by
  unfold removePull; repeat' split
  all_goals simp
@[simp] theorem removePull_fcu (s : State) (i : EntryIx) :
    (removePull s i).fcu = s.fcu := by
  unfold removePull; repeat' split
  all_goals simp
@[simp] theorem removePull_notices (s : State) (i : EntryIx) :
    (removePull s i).notices = s.notices := by
  unfold removePull; repeat' split
  all_goals simp
@[simp] theorem removePull_flags (s : State) (i : EntryIx) :
    (removePull s i).flags = s.flags := by
  unfold removePull; repeat' split
  all_goals simp
@[simp] theorem removePull_lifecycle (s : State) (i : EntryIx) :
    (removePull s i).lifecycle = s.lifecycle := by
  unfold removePull; repeat' split
  all_goals simp
@[simp] theorem removePull_params (s : State) (i : EntryIx) :
    (removePull s i).params = s.params := by
  unfold removePull; repeat' split
  all_goals simp
@[simp] theorem removePull_time (s : State) (i : EntryIx) :
    (removePull s i).time = s.time := by
  unfold removePull; repeat' split
  all_goals simp
@[simp] theorem removePull_reply (s : State) (i : EntryIx) :
    (removePull s i).reply = s.reply := by
  unfold removePull; repeat' split
  all_goals simp
@[simp] theorem removePull_shiftedOut (s : State) (i : EntryIx) :
    (removePull s i).shiftedOut = s.shiftedOut := by
  unfold removePull; repeat' split
  all_goals simp
@[simp] theorem removePull_draws (s : State) (i : EntryIx) :
    (removePull s i).draws = s.draws := by
  unfold removePull; repeat' split
  all_goals simp
@[simp] theorem removePull_pending (s : State) (i : EntryIx) :
    (removePull s i).pending = s.pending := by
  unfold removePull; repeat' split
  all_goals simp
@[simp] theorem removePull_record (s : State) (i : EntryIx) (who : Station) :
    (removePull s i).record who = s.record who := State.record_congr (by simp) who
@[simp] theorem removePull_own (s : State) (i : EntryIx) :
    (removePull s i).own = s.own := State.own_congr (by simp)

@[simp] theorem removePull_cfg (s : State) (i : EntryIx) (j : EntryIx) :
    (removePull s i).cfg j = s.cfg j := by
  unfold removePull; split
  · rw [refillPulls_cfg, State.modRt_cfg]; rfl
  · rfl

@[simp] theorem takeAutoPull_liu (s : State) (i : EntryIx) :
    (takeAutoPull s i).liu = s.liu := by
  unfold takeAutoPull; repeat' split
  all_goals simp
@[simp] theorem takeAutoPull_verdict (s : State) (i : EntryIx) :
    (takeAutoPull s i).verdict = s.verdict := by
  unfold takeAutoPull; repeat' split
  all_goals simp
@[simp] theorem takeAutoPull_announce (s : State) (i : EntryIx) :
    (takeAutoPull s i).announce = s.announce := by
  unfold takeAutoPull; repeat' split
  all_goals simp
@[simp] theorem takeAutoPull_inFlight (s : State) (i : EntryIx) :
    (takeAutoPull s i).inFlight = s.inFlight := by
  unfold takeAutoPull; repeat' split
  all_goals simp
@[simp] theorem takeAutoPull_roster (s : State) (i : EntryIx) :
    (takeAutoPull s i).roster = s.roster := by
  unfold takeAutoPull; repeat' split
  all_goals simp
@[simp] theorem takeAutoPull_announceTimer (s : State) (i : EntryIx) :
    (takeAutoPull s i).announceTimer = s.announceTimer := by
  unfold takeAutoPull; repeat' split
  all_goals simp
@[simp] theorem takeAutoPull_fcu (s : State) (i : EntryIx) :
    (takeAutoPull s i).fcu = s.fcu := by
  unfold takeAutoPull; repeat' split
  all_goals simp
@[simp] theorem takeAutoPull_notices (s : State) (i : EntryIx) :
    (takeAutoPull s i).notices = s.notices := by
  unfold takeAutoPull; repeat' split
  all_goals simp
@[simp] theorem takeAutoPull_flags (s : State) (i : EntryIx) :
    (takeAutoPull s i).flags = s.flags := by
  unfold takeAutoPull; repeat' split
  all_goals simp
@[simp] theorem takeAutoPull_lifecycle (s : State) (i : EntryIx) :
    (takeAutoPull s i).lifecycle = s.lifecycle := by
  unfold takeAutoPull; repeat' split
  all_goals simp
@[simp] theorem takeAutoPull_params (s : State) (i : EntryIx) :
    (takeAutoPull s i).params = s.params := by
  unfold takeAutoPull; repeat' split
  all_goals simp
@[simp] theorem takeAutoPull_time (s : State) (i : EntryIx) :
    (takeAutoPull s i).time = s.time := by
  unfold takeAutoPull; repeat' split
  all_goals simp
@[simp] theorem takeAutoPull_reply (s : State) (i : EntryIx) :
    (takeAutoPull s i).reply = s.reply := by
  unfold takeAutoPull; repeat' split
  all_goals simp
@[simp] theorem takeAutoPull_shiftedOut (s : State) (i : EntryIx) :
    (takeAutoPull s i).shiftedOut = s.shiftedOut := by
  unfold takeAutoPull; repeat' split
  all_goals simp
@[simp] theorem takeAutoPull_draws (s : State) (i : EntryIx) :
    (takeAutoPull s i).draws = s.draws := by
  unfold takeAutoPull; repeat' split
  all_goals simp
@[simp] theorem takeAutoPull_pending (s : State) (i : EntryIx) :
    (takeAutoPull s i).pending = s.pending := by
  unfold takeAutoPull; repeat' split
  all_goals simp
@[simp] theorem takeAutoPull_record (s : State) (i : EntryIx) (who : Station) :
    (takeAutoPull s i).record who = s.record who := State.record_congr (by simp) who
@[simp] theorem takeAutoPull_own (s : State) (i : EntryIx) :
    (takeAutoPull s i).own = s.own := State.own_congr (by simp)

@[simp] theorem takeAutoPull_cfg (s : State) (i : EntryIx) (j : EntryIx) :
    (takeAutoPull s i).cfg j = s.cfg j := by
  unfold takeAutoPull; repeat' split
  all_goals simp

@[simp] theorem requestAutoPull_liu (s : State) (i : EntryIx) :
    (requestAutoPull s i).liu = s.liu := by
  unfold requestAutoPull; repeat' split
  all_goals simp
@[simp] theorem requestAutoPull_verdict (s : State) (i : EntryIx) :
    (requestAutoPull s i).verdict = s.verdict := by
  unfold requestAutoPull; repeat' split
  all_goals simp
@[simp] theorem requestAutoPull_announce (s : State) (i : EntryIx) :
    (requestAutoPull s i).announce = s.announce := by
  unfold requestAutoPull; repeat' split
  all_goals simp
@[simp] theorem requestAutoPull_inFlight (s : State) (i : EntryIx) :
    (requestAutoPull s i).inFlight = s.inFlight := by
  unfold requestAutoPull; repeat' split
  all_goals simp
@[simp] theorem requestAutoPull_roster (s : State) (i : EntryIx) :
    (requestAutoPull s i).roster = s.roster := by
  unfold requestAutoPull; repeat' split
  all_goals simp
@[simp] theorem requestAutoPull_announceTimer (s : State) (i : EntryIx) :
    (requestAutoPull s i).announceTimer = s.announceTimer := by
  unfold requestAutoPull; repeat' split
  all_goals simp
@[simp] theorem requestAutoPull_fcu (s : State) (i : EntryIx) :
    (requestAutoPull s i).fcu = s.fcu := by
  unfold requestAutoPull; repeat' split
  all_goals simp
@[simp] theorem requestAutoPull_notices (s : State) (i : EntryIx) :
    (requestAutoPull s i).notices = s.notices := by
  unfold requestAutoPull; repeat' split
  all_goals simp
@[simp] theorem requestAutoPull_flags (s : State) (i : EntryIx) :
    (requestAutoPull s i).flags = s.flags := by
  unfold requestAutoPull; repeat' split
  all_goals simp
@[simp] theorem requestAutoPull_lifecycle (s : State) (i : EntryIx) :
    (requestAutoPull s i).lifecycle = s.lifecycle := by
  unfold requestAutoPull; repeat' split
  all_goals simp
@[simp] theorem requestAutoPull_params (s : State) (i : EntryIx) :
    (requestAutoPull s i).params = s.params := by
  unfold requestAutoPull; repeat' split
  all_goals simp
@[simp] theorem requestAutoPull_time (s : State) (i : EntryIx) :
    (requestAutoPull s i).time = s.time := by
  unfold requestAutoPull; repeat' split
  all_goals simp
@[simp] theorem requestAutoPull_reply (s : State) (i : EntryIx) :
    (requestAutoPull s i).reply = s.reply := by
  unfold requestAutoPull; repeat' split
  all_goals simp
@[simp] theorem requestAutoPull_shiftedOut (s : State) (i : EntryIx) :
    (requestAutoPull s i).shiftedOut = s.shiftedOut := by
  unfold requestAutoPull; repeat' split
  all_goals simp
@[simp] theorem requestAutoPull_draws (s : State) (i : EntryIx) :
    (requestAutoPull s i).draws = s.draws := by
  unfold requestAutoPull; repeat' split
  all_goals simp
@[simp] theorem requestAutoPull_pending (s : State) (i : EntryIx) :
    (requestAutoPull s i).pending = s.pending := by
  unfold requestAutoPull; repeat' split
  all_goals simp
@[simp] theorem requestAutoPull_record (s : State) (i : EntryIx) (who : Station) :
    (requestAutoPull s i).record who = s.record who := State.record_congr (by simp) who
@[simp] theorem requestAutoPull_own (s : State) (i : EntryIx) :
    (requestAutoPull s i).own = s.own := State.own_congr (by simp)

@[simp] theorem requestAutoPull_cfg (s : State) (i : EntryIx) (j : EntryIx) :
    (requestAutoPull s i).cfg j = s.cfg j := by
  unfold requestAutoPull; split <;> simp

@[simp] theorem takeAutoPulls_liu (s : State) (is : List EntryIx) :
    (takeAutoPulls s is).liu = s.liu := by
  unfold takeAutoPulls; split
  · exact foldl_keeps (·.liu) _ (fun s i => takeAutoPull_liu s i) _ _
  · exact foldl_keeps (·.liu) _ (fun s i => takeAutoPull_liu s i) _ _
@[simp] theorem takeAutoPulls_verdict (s : State) (is : List EntryIx) :
    (takeAutoPulls s is).verdict = s.verdict := by
  unfold takeAutoPulls; split
  · exact foldl_keeps (·.verdict) _ (fun s i => takeAutoPull_verdict s i) _ _
  · exact foldl_keeps (·.verdict) _ (fun s i => takeAutoPull_verdict s i) _ _
@[simp] theorem takeAutoPulls_announce (s : State) (is : List EntryIx) :
    (takeAutoPulls s is).announce = s.announce := by
  unfold takeAutoPulls; split
  · exact foldl_keeps (·.announce) _ (fun s i => takeAutoPull_announce s i) _ _
  · exact foldl_keeps (·.announce) _ (fun s i => takeAutoPull_announce s i) _ _
@[simp] theorem takeAutoPulls_inFlight (s : State) (is : List EntryIx) :
    (takeAutoPulls s is).inFlight = s.inFlight := by
  unfold takeAutoPulls; split
  · exact foldl_keeps (·.inFlight) _ (fun s i => takeAutoPull_inFlight s i) _ _
  · exact foldl_keeps (·.inFlight) _ (fun s i => takeAutoPull_inFlight s i) _ _
@[simp] theorem takeAutoPulls_roster (s : State) (is : List EntryIx) :
    (takeAutoPulls s is).roster = s.roster := by
  unfold takeAutoPulls; split
  · exact foldl_keeps (·.roster) _ (fun s i => takeAutoPull_roster s i) _ _
  · exact foldl_keeps (·.roster) _ (fun s i => takeAutoPull_roster s i) _ _
@[simp] theorem takeAutoPulls_announceTimer (s : State) (is : List EntryIx) :
    (takeAutoPulls s is).announceTimer = s.announceTimer := by
  unfold takeAutoPulls; split
  · exact foldl_keeps (·.announceTimer) _ (fun s i => takeAutoPull_announceTimer s i) _ _
  · exact foldl_keeps (·.announceTimer) _ (fun s i => takeAutoPull_announceTimer s i) _ _
@[simp] theorem takeAutoPulls_fcu (s : State) (is : List EntryIx) :
    (takeAutoPulls s is).fcu = s.fcu := by
  unfold takeAutoPulls; split
  · exact foldl_keeps (·.fcu) _ (fun s i => takeAutoPull_fcu s i) _ _
  · exact foldl_keeps (·.fcu) _ (fun s i => takeAutoPull_fcu s i) _ _
@[simp] theorem takeAutoPulls_notices (s : State) (is : List EntryIx) :
    (takeAutoPulls s is).notices = s.notices := by
  unfold takeAutoPulls; split
  · exact foldl_keeps (·.notices) _ (fun s i => takeAutoPull_notices s i) _ _
  · exact foldl_keeps (·.notices) _ (fun s i => takeAutoPull_notices s i) _ _
@[simp] theorem takeAutoPulls_flags (s : State) (is : List EntryIx) :
    (takeAutoPulls s is).flags = s.flags := by
  unfold takeAutoPulls; split
  · exact foldl_keeps (·.flags) _ (fun s i => takeAutoPull_flags s i) _ _
  · exact foldl_keeps (·.flags) _ (fun s i => takeAutoPull_flags s i) _ _
@[simp] theorem takeAutoPulls_lifecycle (s : State) (is : List EntryIx) :
    (takeAutoPulls s is).lifecycle = s.lifecycle := by
  unfold takeAutoPulls; split
  · exact foldl_keeps (·.lifecycle) _ (fun s i => takeAutoPull_lifecycle s i) _ _
  · exact foldl_keeps (·.lifecycle) _ (fun s i => takeAutoPull_lifecycle s i) _ _
@[simp] theorem takeAutoPulls_params (s : State) (is : List EntryIx) :
    (takeAutoPulls s is).params = s.params := by
  unfold takeAutoPulls; split
  · exact foldl_keeps (·.params) _ (fun s i => takeAutoPull_params s i) _ _
  · exact foldl_keeps (·.params) _ (fun s i => takeAutoPull_params s i) _ _
@[simp] theorem takeAutoPulls_time (s : State) (is : List EntryIx) :
    (takeAutoPulls s is).time = s.time := by
  unfold takeAutoPulls; split
  · exact foldl_keeps (·.time) _ (fun s i => takeAutoPull_time s i) _ _
  · exact foldl_keeps (·.time) _ (fun s i => takeAutoPull_time s i) _ _
@[simp] theorem takeAutoPulls_reply (s : State) (is : List EntryIx) :
    (takeAutoPulls s is).reply = s.reply := by
  unfold takeAutoPulls; split
  · exact foldl_keeps (·.reply) _ (fun s i => takeAutoPull_reply s i) _ _
  · exact foldl_keeps (·.reply) _ (fun s i => takeAutoPull_reply s i) _ _
@[simp] theorem takeAutoPulls_shiftedOut (s : State) (is : List EntryIx) :
    (takeAutoPulls s is).shiftedOut = s.shiftedOut := by
  unfold takeAutoPulls; split
  · exact foldl_keeps (·.shiftedOut) _ (fun s i => takeAutoPull_shiftedOut s i) _ _
  · exact foldl_keeps (·.shiftedOut) _ (fun s i => takeAutoPull_shiftedOut s i) _ _
@[simp] theorem takeAutoPulls_pending (s : State) (is : List EntryIx) :
    (takeAutoPulls s is).pending = s.pending := by
  unfold takeAutoPulls; split
  · exact foldl_keeps (·.pending) _ (fun s i => takeAutoPull_pending s i) _ _
  · exact foldl_keeps (·.pending) _ (fun s i => takeAutoPull_pending s i) _ _
@[simp] theorem takeAutoPulls_record (s : State) (is : List EntryIx) (who : Station) :
    (takeAutoPulls s is).record who = s.record who := State.record_congr (by simp) who
@[simp] theorem takeAutoPulls_own (s : State) (is : List EntryIx) :
    (takeAutoPulls s is).own = s.own := State.own_congr (by simp)

@[simp] theorem takeAutoPulls_cfg (s : State) (is : List EntryIx) (j : EntryIx) :
    (takeAutoPulls s is).cfg j = s.cfg j := by
  unfold takeAutoPulls; split
  · exact foldl_keeps (·.cfg j) _ (fun s i => takeAutoPull_cfg s i j) _ _
  · exact foldl_keeps (·.cfg j) _ (fun s i => takeAutoPull_cfg s i j) _ _

/-- Adding a record changes nothing of an entry but its pending PULL. -/
theorem addPull_rt (s : State) (i j : EntryIx) :
    (addPull s i).rt j
      = { s.rt j with pending := { (s.rt j).pending with pull := ((addPull s i).rt j).pending.pull } } := by
  unfold addPull raisePull
  rw [State.modRt_rt]
  split <;> rfl

/-- Removing a record changes nothing of an entry but its pending PULL and its pull-wanted mark. -/
theorem removePull_rt (s : State) (i j : EntryIx) :
    (removePull s i).rt j = { s.rt j with
      pullWanted := ((removePull s i).rt j).pullWanted
      pending := { (s.rt j).pending with pull := ((removePull s i).rt j).pending.pull } } := by
  have key : ∀ s : State, (refillPulls s).rt j = { s.rt j with
      pullWanted := ((refillPulls s).rt j).pullWanted
      pending := { (s.rt j).pending with pull := ((refillPulls s).rt j).pending.pull } } := by
    intro s
    unfold refillPulls
    split
    · rfl
    · rw [addPull_rt, State.modRt_rt]
      split <;> rfl
  unfold removePull
  split
  · rw [key, State.modRt_rt]
    split <;> rfl
  · rfl

/-- An auto-pull changes nothing of an entry but its pending PULL and its pull-wanted mark. -/
theorem takeAutoPull_rt (s : State) (i j : EntryIx) :
    (takeAutoPull s i).rt j = { s.rt j with
      pullWanted := ((takeAutoPull s i).rt j).pullWanted
      pending := { (s.rt j).pending with pull := ((takeAutoPull s i).rt j).pending.pull } } := by
  unfold takeAutoPull
  repeat' split
  all_goals first
    | rfl
    | (rw [addPull_rt])
    | (rw [State.modRt_rt]; split <;> rfl)

/-- The table holds a record for an entry exactly when one is found. -/
theorem findPull_isSome (s : State) (i : EntryIx) : (findPull s i).isSome = true ↔ ∃ p ∈ s.pulls, p.entry = i := by
  simp [findPull]

/-- The record found is in the table and is the entry's. -/
theorem findPull_spec {s : State} {i : EntryIx} {p : PullRecord} (h : findPull s i = some p) :
    p ∈ s.pulls ∧ p.entry = i := by
  have h1 := List.mem_of_find?_eq_some h
  have h2 := List.find?_some h
  exact ⟨h1, by simpa using h2⟩

/-! ### Role changes (section 1.6) -/

@[simp] theorem enterPublisher_liu (s : State) (i : EntryIx) (g v : Byte) (x : Vector Byte 12) :
    (enterPublisher s i g v x).liu = s.liu := by
  unfold enterPublisher; simp
@[simp] theorem enterPublisher_verdict (s : State) (i : EntryIx) (g v : Byte) (x : Vector Byte 12) :
    (enterPublisher s i g v x).verdict = s.verdict := by
  unfold enterPublisher; simp
@[simp] theorem enterPublisher_announce (s : State) (i : EntryIx) (g v : Byte) (x : Vector Byte 12) :
    (enterPublisher s i g v x).announce = s.announce := by
  unfold enterPublisher; simp
@[simp] theorem enterPublisher_inFlight (s : State) (i : EntryIx) (g v : Byte) (x : Vector Byte 12) :
    (enterPublisher s i g v x).inFlight = s.inFlight := by
  unfold enterPublisher; simp
@[simp] theorem enterPublisher_roster (s : State) (i : EntryIx) (g v : Byte) (x : Vector Byte 12) :
    (enterPublisher s i g v x).roster = s.roster := by
  unfold enterPublisher; simp
@[simp] theorem enterPublisher_announceTimer (s : State) (i : EntryIx) (g v : Byte) (x : Vector Byte 12) :
    (enterPublisher s i g v x).announceTimer = s.announceTimer := by
  unfold enterPublisher; simp
@[simp] theorem enterPublisher_fcu (s : State) (i : EntryIx) (g v : Byte) (x : Vector Byte 12) :
    (enterPublisher s i g v x).fcu = s.fcu := by
  unfold enterPublisher; simp
@[simp] theorem enterPublisher_lifecycle (s : State) (i : EntryIx) (g v : Byte) (x : Vector Byte 12) :
    (enterPublisher s i g v x).lifecycle = s.lifecycle := by
  unfold enterPublisher; simp
@[simp] theorem enterPublisher_params (s : State) (i : EntryIx) (g v : Byte) (x : Vector Byte 12) :
    (enterPublisher s i g v x).params = s.params := by
  unfold enterPublisher; simp
@[simp] theorem enterPublisher_time (s : State) (i : EntryIx) (g v : Byte) (x : Vector Byte 12) :
    (enterPublisher s i g v x).time = s.time := by
  unfold enterPublisher; simp
@[simp] theorem enterPublisher_reply (s : State) (i : EntryIx) (g v : Byte) (x : Vector Byte 12) :
    (enterPublisher s i g v x).reply = s.reply := by
  unfold enterPublisher; simp
@[simp] theorem enterPublisher_shiftedOut (s : State) (i : EntryIx) (g v : Byte) (x : Vector Byte 12) :
    (enterPublisher s i g v x).shiftedOut = s.shiftedOut := by
  unfold enterPublisher; simp
@[simp] theorem enterPublisher_draws (s : State) (i : EntryIx) (g v : Byte) (x : Vector Byte 12) :
    (enterPublisher s i g v x).draws = s.draws := by
  unfold enterPublisher; simp
@[simp] theorem enterPublisher_pending (s : State) (i : EntryIx) (g v : Byte) (x : Vector Byte 12) :
    (enterPublisher s i g v x).pending = s.pending := by
  unfold enterPublisher; simp
@[simp] theorem enterPublisher_record (s : State) (i : EntryIx) (g v : Byte) (x : Vector Byte 12) (who : Station) :
    (enterPublisher s i g v x).record who = s.record who := State.record_congr (by simp) who
@[simp] theorem enterPublisher_own (s : State) (i : EntryIx) (g v : Byte) (x : Vector Byte 12) :
    (enterPublisher s i g v x).own = s.own := State.own_congr (by simp)

@[simp] theorem enterPublisher_cfg (s : State) (i : EntryIx) (g v : Byte) (x : Vector Byte 12) (j : EntryIx) :
    (enterPublisher s i g v x).cfg j = s.cfg j := by
  unfold enterPublisher; simp

@[simp] theorem adopt_liu (s : State) (i : EntryIx) :
    (adopt s i).liu = s.liu := by
  unfold adopt; simp
@[simp] theorem adopt_verdict (s : State) (i : EntryIx) :
    (adopt s i).verdict = s.verdict := by
  unfold adopt; simp
@[simp] theorem adopt_announce (s : State) (i : EntryIx) :
    (adopt s i).announce = s.announce := by
  unfold adopt; simp
@[simp] theorem adopt_inFlight (s : State) (i : EntryIx) :
    (adopt s i).inFlight = s.inFlight := by
  unfold adopt; simp
@[simp] theorem adopt_roster (s : State) (i : EntryIx) :
    (adopt s i).roster = s.roster := by
  unfold adopt; simp
@[simp] theorem adopt_announceTimer (s : State) (i : EntryIx) :
    (adopt s i).announceTimer = s.announceTimer := by
  unfold adopt; simp
@[simp] theorem adopt_fcu (s : State) (i : EntryIx) :
    (adopt s i).fcu = s.fcu := by
  unfold adopt; simp
@[simp] theorem adopt_lifecycle (s : State) (i : EntryIx) :
    (adopt s i).lifecycle = s.lifecycle := by
  unfold adopt; simp
@[simp] theorem adopt_params (s : State) (i : EntryIx) :
    (adopt s i).params = s.params := by
  unfold adopt; simp
@[simp] theorem adopt_time (s : State) (i : EntryIx) :
    (adopt s i).time = s.time := by
  unfold adopt; simp
@[simp] theorem adopt_reply (s : State) (i : EntryIx) :
    (adopt s i).reply = s.reply := by
  unfold adopt; simp
@[simp] theorem adopt_shiftedOut (s : State) (i : EntryIx) :
    (adopt s i).shiftedOut = s.shiftedOut := by
  unfold adopt; simp
@[simp] theorem adopt_draws (s : State) (i : EntryIx) :
    (adopt s i).draws = s.draws := by
  unfold adopt; simp
@[simp] theorem adopt_pending (s : State) (i : EntryIx) :
    (adopt s i).pending = s.pending := by
  unfold adopt; simp
@[simp] theorem adopt_record (s : State) (i : EntryIx) (who : Station) :
    (adopt s i).record who = s.record who := State.record_congr (by simp) who
@[simp] theorem adopt_own (s : State) (i : EntryIx) :
    (adopt s i).own = s.own := State.own_congr (by simp)

@[simp] theorem adopt_cfg (s : State) (i : EntryIx) (j : EntryIx) :
    (adopt s i).cfg j = s.cfg j := by
  unfold adopt; simp

@[simp] theorem enterYielding_liu (s : State) (i : EntryIx) (st : Station) :
    (enterYielding s i st).liu = s.liu := by
  simp only [enterYielding, State.modRt]
@[simp] theorem enterYielding_verdict (s : State) (i : EntryIx) (st : Station) :
    (enterYielding s i st).verdict = s.verdict := by
  simp only [enterYielding, State.modRt]
@[simp] theorem enterYielding_announce (s : State) (i : EntryIx) (st : Station) :
    (enterYielding s i st).announce = s.announce := by
  simp only [enterYielding, State.modRt]
@[simp] theorem enterYielding_inFlight (s : State) (i : EntryIx) (st : Station) :
    (enterYielding s i st).inFlight = s.inFlight := by
  simp only [enterYielding, State.modRt]
@[simp] theorem enterYielding_pulls (s : State) (i : EntryIx) (st : Station) :
    (enterYielding s i st).pulls = s.pulls := by
  simp only [enterYielding, State.modRt]
@[simp] theorem enterYielding_roster (s : State) (i : EntryIx) (st : Station) :
    (enterYielding s i st).roster = s.roster := by
  simp only [enterYielding, State.modRt]
@[simp] theorem enterYielding_announceTimer (s : State) (i : EntryIx) (st : Station) :
    (enterYielding s i st).announceTimer = s.announceTimer := by
  simp only [enterYielding, State.modRt]
@[simp] theorem enterYielding_fcu (s : State) (i : EntryIx) (st : Station) :
    (enterYielding s i st).fcu = s.fcu := by
  simp only [enterYielding, State.modRt]
@[simp] theorem enterYielding_notices (s : State) (i : EntryIx) (st : Station) :
    (enterYielding s i st).notices = s.notices := by
  simp only [enterYielding, State.modRt]
@[simp] theorem enterYielding_flags (s : State) (i : EntryIx) (st : Station) :
    (enterYielding s i st).flags = s.flags := by
  simp only [enterYielding, State.modRt]
@[simp] theorem enterYielding_lifecycle (s : State) (i : EntryIx) (st : Station) :
    (enterYielding s i st).lifecycle = s.lifecycle := by
  simp only [enterYielding, State.modRt]
@[simp] theorem enterYielding_params (s : State) (i : EntryIx) (st : Station) :
    (enterYielding s i st).params = s.params := by
  simp only [enterYielding, State.modRt]
@[simp] theorem enterYielding_time (s : State) (i : EntryIx) (st : Station) :
    (enterYielding s i st).time = s.time := by
  simp only [enterYielding, State.modRt]
@[simp] theorem enterYielding_reply (s : State) (i : EntryIx) (st : Station) :
    (enterYielding s i st).reply = s.reply := by
  simp only [enterYielding, State.modRt]
@[simp] theorem enterYielding_shiftedOut (s : State) (i : EntryIx) (st : Station) :
    (enterYielding s i st).shiftedOut = s.shiftedOut := by
  simp only [enterYielding, State.modRt]
@[simp] theorem enterYielding_draws (s : State) (i : EntryIx) (st : Station) :
    (enterYielding s i st).draws = s.draws := by
  simp only [enterYielding, State.modRt]
@[simp] theorem enterYielding_pending (s : State) (i : EntryIx) (st : Station) :
    (enterYielding s i st).pending = s.pending := by
  simp only [enterYielding, State.modRt]

@[simp] theorem enterYielding_cfg (s : State) (i : EntryIx) (st : Station) (j : EntryIx) :
    (enterYielding s i st).cfg j = s.cfg j := by
  unfold enterYielding; simp

@[simp] theorem failYield_liu (s : State) (i : EntryIx) :
    (failYield s i).liu = s.liu := by
  unfold failYield; simp
@[simp] theorem failYield_verdict (s : State) (i : EntryIx) :
    (failYield s i).verdict = s.verdict := by
  unfold failYield; simp
@[simp] theorem failYield_announce (s : State) (i : EntryIx) :
    (failYield s i).announce = s.announce := by
  unfold failYield; simp
@[simp] theorem failYield_inFlight (s : State) (i : EntryIx) :
    (failYield s i).inFlight = s.inFlight := by
  unfold failYield; simp
@[simp] theorem failYield_pulls (s : State) (i : EntryIx) :
    (failYield s i).pulls = s.pulls := by
  unfold failYield; simp
@[simp] theorem failYield_roster (s : State) (i : EntryIx) :
    (failYield s i).roster = s.roster := by
  unfold failYield; simp
@[simp] theorem failYield_announceTimer (s : State) (i : EntryIx) :
    (failYield s i).announceTimer = s.announceTimer := by
  unfold failYield; simp
@[simp] theorem failYield_fcu (s : State) (i : EntryIx) :
    (failYield s i).fcu = s.fcu := by
  unfold failYield; simp
@[simp] theorem failYield_lifecycle (s : State) (i : EntryIx) :
    (failYield s i).lifecycle = s.lifecycle := by
  unfold failYield; simp
@[simp] theorem failYield_params (s : State) (i : EntryIx) :
    (failYield s i).params = s.params := by
  unfold failYield; simp
@[simp] theorem failYield_time (s : State) (i : EntryIx) :
    (failYield s i).time = s.time := by
  unfold failYield; simp
@[simp] theorem failYield_reply (s : State) (i : EntryIx) :
    (failYield s i).reply = s.reply := by
  unfold failYield; simp
@[simp] theorem failYield_shiftedOut (s : State) (i : EntryIx) :
    (failYield s i).shiftedOut = s.shiftedOut := by
  unfold failYield; simp
@[simp] theorem failYield_draws (s : State) (i : EntryIx) :
    (failYield s i).draws = s.draws := by
  unfold failYield; simp
@[simp] theorem failYield_pending (s : State) (i : EntryIx) :
    (failYield s i).pending = s.pending := by
  unfold failYield; simp
@[simp] theorem failYield_record (s : State) (i : EntryIx) (who : Station) :
    (failYield s i).record who = s.record who := State.record_congr (by simp) who
@[simp] theorem failYield_own (s : State) (i : EntryIx) :
    (failYield s i).own = s.own := State.own_congr (by simp)

@[simp] theorem failYield_cfg (s : State) (i : EntryIx) (j : EntryIx) :
    (failYield s i).cfg j = s.cfg j := by
  unfold failYield; simp

@[simp] theorem enterMirror_liu (s : State) (i : EntryIx) (st : Station) (g v : Byte) (x : Vector Byte 12) :
    (enterMirror s i st g v x).liu = s.liu := by
  simp only [enterMirror, State.modRt]
@[simp] theorem enterMirror_verdict (s : State) (i : EntryIx) (st : Station) (g v : Byte) (x : Vector Byte 12) :
    (enterMirror s i st g v x).verdict = s.verdict := by
  simp only [enterMirror, State.modRt]
@[simp] theorem enterMirror_announce (s : State) (i : EntryIx) (st : Station) (g v : Byte) (x : Vector Byte 12) :
    (enterMirror s i st g v x).announce = s.announce := by
  simp only [enterMirror, State.modRt]
@[simp] theorem enterMirror_inFlight (s : State) (i : EntryIx) (st : Station) (g v : Byte) (x : Vector Byte 12) :
    (enterMirror s i st g v x).inFlight = s.inFlight := by
  simp only [enterMirror, State.modRt]
@[simp] theorem enterMirror_pulls (s : State) (i : EntryIx) (st : Station) (g v : Byte) (x : Vector Byte 12) :
    (enterMirror s i st g v x).pulls = s.pulls := by
  simp only [enterMirror, State.modRt]
@[simp] theorem enterMirror_roster (s : State) (i : EntryIx) (st : Station) (g v : Byte) (x : Vector Byte 12) :
    (enterMirror s i st g v x).roster = s.roster := by
  simp only [enterMirror, State.modRt]
@[simp] theorem enterMirror_announceTimer (s : State) (i : EntryIx) (st : Station) (g v : Byte) (x : Vector Byte 12) :
    (enterMirror s i st g v x).announceTimer = s.announceTimer := by
  simp only [enterMirror, State.modRt]
@[simp] theorem enterMirror_fcu (s : State) (i : EntryIx) (st : Station) (g v : Byte) (x : Vector Byte 12) :
    (enterMirror s i st g v x).fcu = s.fcu := by
  simp only [enterMirror, State.modRt]
@[simp] theorem enterMirror_notices (s : State) (i : EntryIx) (st : Station) (g v : Byte) (x : Vector Byte 12) :
    (enterMirror s i st g v x).notices = s.notices := by
  simp only [enterMirror, State.modRt]
@[simp] theorem enterMirror_flags (s : State) (i : EntryIx) (st : Station) (g v : Byte) (x : Vector Byte 12) :
    (enterMirror s i st g v x).flags = s.flags := by
  simp only [enterMirror, State.modRt]
@[simp] theorem enterMirror_lifecycle (s : State) (i : EntryIx) (st : Station) (g v : Byte) (x : Vector Byte 12) :
    (enterMirror s i st g v x).lifecycle = s.lifecycle := by
  simp only [enterMirror, State.modRt]
@[simp] theorem enterMirror_params (s : State) (i : EntryIx) (st : Station) (g v : Byte) (x : Vector Byte 12) :
    (enterMirror s i st g v x).params = s.params := by
  simp only [enterMirror, State.modRt]
@[simp] theorem enterMirror_time (s : State) (i : EntryIx) (st : Station) (g v : Byte) (x : Vector Byte 12) :
    (enterMirror s i st g v x).time = s.time := by
  simp only [enterMirror, State.modRt]
@[simp] theorem enterMirror_reply (s : State) (i : EntryIx) (st : Station) (g v : Byte) (x : Vector Byte 12) :
    (enterMirror s i st g v x).reply = s.reply := by
  simp only [enterMirror, State.modRt]
@[simp] theorem enterMirror_shiftedOut (s : State) (i : EntryIx) (st : Station) (g v : Byte) (x : Vector Byte 12) :
    (enterMirror s i st g v x).shiftedOut = s.shiftedOut := by
  simp only [enterMirror, State.modRt]
@[simp] theorem enterMirror_draws (s : State) (i : EntryIx) (st : Station) (g v : Byte) (x : Vector Byte 12) :
    (enterMirror s i st g v x).draws = s.draws := by
  simp only [enterMirror, State.modRt]
@[simp] theorem enterMirror_pending (s : State) (i : EntryIx) (st : Station) (g v : Byte) (x : Vector Byte 12) :
    (enterMirror s i st g v x).pending = s.pending := by
  simp only [enterMirror, State.modRt]

@[simp] theorem enterMirror_cfg (s : State) (i : EntryIx) (st : Station) (g v : Byte) (x : Vector Byte 12) (j : EntryIx) :
    (enterMirror s i st g v x).cfg j = s.cfg j := by
  unfold enterMirror; simp

@[simp] theorem endClaim_liu (s : State) (i : EntryIx) (r : Reason) :
    (endClaim s i r).liu = s.liu := by
  unfold endClaim; dsimp only; split <;> simp
@[simp] theorem endClaim_verdict (s : State) (i : EntryIx) (r : Reason) :
    (endClaim s i r).verdict = s.verdict := by
  unfold endClaim; dsimp only; split <;> simp
@[simp] theorem endClaim_announce (s : State) (i : EntryIx) (r : Reason) :
    (endClaim s i r).announce = s.announce := by
  unfold endClaim; dsimp only; split <;> simp
@[simp] theorem endClaim_inFlight (s : State) (i : EntryIx) (r : Reason) :
    (endClaim s i r).inFlight = s.inFlight := by
  unfold endClaim; dsimp only; split <;> simp
@[simp] theorem endClaim_roster (s : State) (i : EntryIx) (r : Reason) :
    (endClaim s i r).roster = s.roster := by
  unfold endClaim; dsimp only; split <;> simp
@[simp] theorem endClaim_announceTimer (s : State) (i : EntryIx) (r : Reason) :
    (endClaim s i r).announceTimer = s.announceTimer := by
  unfold endClaim; dsimp only; split <;> simp
@[simp] theorem endClaim_fcu (s : State) (i : EntryIx) (r : Reason) :
    (endClaim s i r).fcu = s.fcu := by
  unfold endClaim; dsimp only; split <;> simp
@[simp] theorem endClaim_lifecycle (s : State) (i : EntryIx) (r : Reason) :
    (endClaim s i r).lifecycle = s.lifecycle := by
  unfold endClaim; dsimp only; split <;> simp
@[simp] theorem endClaim_params (s : State) (i : EntryIx) (r : Reason) :
    (endClaim s i r).params = s.params := by
  unfold endClaim; dsimp only; split <;> simp
@[simp] theorem endClaim_time (s : State) (i : EntryIx) (r : Reason) :
    (endClaim s i r).time = s.time := by
  unfold endClaim; dsimp only; split <;> simp
@[simp] theorem endClaim_reply (s : State) (i : EntryIx) (r : Reason) :
    (endClaim s i r).reply = s.reply := by
  unfold endClaim; dsimp only; split <;> simp
@[simp] theorem endClaim_shiftedOut (s : State) (i : EntryIx) (r : Reason) :
    (endClaim s i r).shiftedOut = s.shiftedOut := by
  unfold endClaim; dsimp only; split <;> simp
@[simp] theorem endClaim_draws (s : State) (i : EntryIx) (r : Reason) :
    (endClaim s i r).draws = s.draws := by
  unfold endClaim; dsimp only; split <;> simp
@[simp] theorem endClaim_pending (s : State) (i : EntryIx) (r : Reason) :
    (endClaim s i r).pending = s.pending := by
  unfold endClaim; dsimp only; split <;> simp
@[simp] theorem endClaim_record (s : State) (i : EntryIx) (r : Reason) (who : Station) :
    (endClaim s i r).record who = s.record who := State.record_congr (by simp) who
@[simp] theorem endClaim_own (s : State) (i : EntryIx) (r : Reason) :
    (endClaim s i r).own = s.own := State.own_congr (by simp)

@[simp] theorem endClaim_cfg (s : State) (i : EntryIx) (r : Reason) (j : EntryIx) :
    (endClaim s i r).cfg j = s.cfg j := by
  unfold endClaim; dsimp only; split <;> simp

/-! ### The LIU, the score and the standing (R40, R142 to R151) -/

@[simp] theorem settleLiu_entries (s : State)  :
    (settleLiu s).entries = s.entries := by
  unfold settleLiu; repeat' split
  all_goals simp
@[simp] theorem settleLiu_verdict (s : State)  :
    (settleLiu s).verdict = s.verdict := by
  unfold settleLiu; repeat' split
  all_goals simp
@[simp] theorem settleLiu_announce (s : State)  :
    (settleLiu s).announce = s.announce := by
  unfold settleLiu; repeat' split
  all_goals simp
@[simp] theorem settleLiu_inFlight (s : State)  :
    (settleLiu s).inFlight = s.inFlight := by
  unfold settleLiu; repeat' split
  all_goals simp
@[simp] theorem settleLiu_pulls (s : State)  :
    (settleLiu s).pulls = s.pulls := by
  unfold settleLiu; repeat' split
  all_goals simp
@[simp] theorem settleLiu_roster (s : State)  :
    (settleLiu s).roster = s.roster := by
  unfold settleLiu; repeat' split
  all_goals simp
@[simp] theorem settleLiu_announceTimer (s : State)  :
    (settleLiu s).announceTimer = s.announceTimer := by
  unfold settleLiu; repeat' split
  all_goals simp
@[simp] theorem settleLiu_fcu (s : State)  :
    (settleLiu s).fcu = s.fcu := by
  unfold settleLiu; repeat' split
  all_goals simp
@[simp] theorem settleLiu_notices (s : State)  :
    (settleLiu s).notices = s.notices := by
  unfold settleLiu; repeat' split
  all_goals simp
@[simp] theorem settleLiu_flags (s : State)  :
    (settleLiu s).flags = s.flags := by
  unfold settleLiu; repeat' split
  all_goals simp
@[simp] theorem settleLiu_lifecycle (s : State)  :
    (settleLiu s).lifecycle = s.lifecycle := by
  unfold settleLiu; repeat' split
  all_goals simp
@[simp] theorem settleLiu_params (s : State)  :
    (settleLiu s).params = s.params := by
  unfold settleLiu; repeat' split
  all_goals simp
@[simp] theorem settleLiu_time (s : State)  :
    (settleLiu s).time = s.time := by
  unfold settleLiu; repeat' split
  all_goals simp
@[simp] theorem settleLiu_reply (s : State)  :
    (settleLiu s).reply = s.reply := by
  unfold settleLiu; repeat' split
  all_goals simp
@[simp] theorem settleLiu_shiftedOut (s : State)  :
    (settleLiu s).shiftedOut = s.shiftedOut := by
  unfold settleLiu; repeat' split
  all_goals simp
@[simp] theorem settleLiu_draws (s : State)  :
    (settleLiu s).draws = s.draws := by
  unfold settleLiu; repeat' split
  all_goals simp
@[simp] theorem settleLiu_pending (s : State)  :
    (settleLiu s).pending = s.pending := by
  unfold settleLiu; repeat' split
  all_goals simp
@[simp] theorem settleLiu_record (s : State)  (who : Station) :
    (settleLiu s).record who = s.record who := State.record_congr (by simp) who
@[simp] theorem settleLiu_own (s : State)  :
    (settleLiu s).own = s.own := State.own_congr (by simp)
@[simp] theorem settleLiu_rt (s : State)  (j : EntryIx) :
    (settleLiu s).rt j = s.rt j := State.rt_congr (by simp) j
@[simp] theorem settleLiu_cfg (s : State)  (j : EntryIx) :
    (settleLiu s).cfg j = s.cfg j := State.cfg_congr (by simp) j

@[simp] theorem betweenFrames_entries (s : State) (w : Option Window) :
    (betweenFrames s w).entries = s.entries := by
  simp only [betweenFrames]
@[simp] theorem betweenFrames_verdict (s : State) (w : Option Window) :
    (betweenFrames s w).verdict = s.verdict := by
  simp only [betweenFrames]
@[simp] theorem betweenFrames_announce (s : State) (w : Option Window) :
    (betweenFrames s w).announce = s.announce := by
  simp only [betweenFrames]
@[simp] theorem betweenFrames_inFlight (s : State) (w : Option Window) :
    (betweenFrames s w).inFlight = s.inFlight := by
  simp only [betweenFrames]
@[simp] theorem betweenFrames_pulls (s : State) (w : Option Window) :
    (betweenFrames s w).pulls = s.pulls := by
  simp only [betweenFrames]
@[simp] theorem betweenFrames_roster (s : State) (w : Option Window) :
    (betweenFrames s w).roster = s.roster := by
  simp only [betweenFrames]
@[simp] theorem betweenFrames_announceTimer (s : State) (w : Option Window) :
    (betweenFrames s w).announceTimer = s.announceTimer := by
  simp only [betweenFrames]
@[simp] theorem betweenFrames_fcu (s : State) (w : Option Window) :
    (betweenFrames s w).fcu = s.fcu := by
  simp only [betweenFrames]
@[simp] theorem betweenFrames_notices (s : State) (w : Option Window) :
    (betweenFrames s w).notices = s.notices := by
  simp only [betweenFrames]
@[simp] theorem betweenFrames_flags (s : State) (w : Option Window) :
    (betweenFrames s w).flags = s.flags := by
  simp only [betweenFrames]
@[simp] theorem betweenFrames_lifecycle (s : State) (w : Option Window) :
    (betweenFrames s w).lifecycle = s.lifecycle := by
  simp only [betweenFrames]
@[simp] theorem betweenFrames_params (s : State) (w : Option Window) :
    (betweenFrames s w).params = s.params := by
  simp only [betweenFrames]
@[simp] theorem betweenFrames_time (s : State) (w : Option Window) :
    (betweenFrames s w).time = s.time := by
  simp only [betweenFrames]
@[simp] theorem betweenFrames_reply (s : State) (w : Option Window) :
    (betweenFrames s w).reply = s.reply := by
  simp only [betweenFrames]
@[simp] theorem betweenFrames_shiftedOut (s : State) (w : Option Window) :
    (betweenFrames s w).shiftedOut = s.shiftedOut := by
  simp only [betweenFrames]
@[simp] theorem betweenFrames_draws (s : State) (w : Option Window) :
    (betweenFrames s w).draws = s.draws := by
  simp only [betweenFrames]
@[simp] theorem betweenFrames_pending (s : State) (w : Option Window) :
    (betweenFrames s w).pending = s.pending := by
  simp only [betweenFrames]
@[simp] theorem betweenFrames_record (s : State) (w : Option Window) (who : Station) :
    (betweenFrames s w).record who = s.record who := State.record_congr (by simp) who
@[simp] theorem betweenFrames_own (s : State) (w : Option Window) :
    (betweenFrames s w).own = s.own := State.own_congr (by simp)
@[simp] theorem betweenFrames_rt (s : State) (w : Option Window) (j : EntryIx) :
    (betweenFrames s w).rt j = s.rt j := State.rt_congr (by simp) j
@[simp] theorem betweenFrames_cfg (s : State) (w : Option Window) (j : EntryIx) :
    (betweenFrames s w).cfg j = s.cfg j := State.cfg_congr (by simp) j

@[simp] theorem countJoinQuiet_entries (s : State) (l : List Level) :
    (countJoinQuiet s l).entries = s.entries := by
  unfold countJoinQuiet; repeat' split
  all_goals simp
@[simp] theorem countJoinQuiet_verdict (s : State) (l : List Level) :
    (countJoinQuiet s l).verdict = s.verdict := by
  unfold countJoinQuiet; repeat' split
  all_goals simp
@[simp] theorem countJoinQuiet_announce (s : State) (l : List Level) :
    (countJoinQuiet s l).announce = s.announce := by
  unfold countJoinQuiet; repeat' split
  all_goals simp
@[simp] theorem countJoinQuiet_inFlight (s : State) (l : List Level) :
    (countJoinQuiet s l).inFlight = s.inFlight := by
  unfold countJoinQuiet; repeat' split
  all_goals simp
@[simp] theorem countJoinQuiet_pulls (s : State) (l : List Level) :
    (countJoinQuiet s l).pulls = s.pulls := by
  unfold countJoinQuiet; repeat' split
  all_goals simp
@[simp] theorem countJoinQuiet_roster (s : State) (l : List Level) :
    (countJoinQuiet s l).roster = s.roster := by
  unfold countJoinQuiet; repeat' split
  all_goals simp
@[simp] theorem countJoinQuiet_announceTimer (s : State) (l : List Level) :
    (countJoinQuiet s l).announceTimer = s.announceTimer := by
  unfold countJoinQuiet; repeat' split
  all_goals simp
@[simp] theorem countJoinQuiet_fcu (s : State) (l : List Level) :
    (countJoinQuiet s l).fcu = s.fcu := by
  unfold countJoinQuiet; repeat' split
  all_goals simp
@[simp] theorem countJoinQuiet_notices (s : State) (l : List Level) :
    (countJoinQuiet s l).notices = s.notices := by
  unfold countJoinQuiet; repeat' split
  all_goals simp
@[simp] theorem countJoinQuiet_flags (s : State) (l : List Level) :
    (countJoinQuiet s l).flags = s.flags := by
  unfold countJoinQuiet; repeat' split
  all_goals simp
@[simp] theorem countJoinQuiet_lifecycle (s : State) (l : List Level) :
    (countJoinQuiet s l).lifecycle = s.lifecycle := by
  unfold countJoinQuiet; repeat' split
  all_goals simp
@[simp] theorem countJoinQuiet_params (s : State) (l : List Level) :
    (countJoinQuiet s l).params = s.params := by
  unfold countJoinQuiet; repeat' split
  all_goals simp
@[simp] theorem countJoinQuiet_time (s : State) (l : List Level) :
    (countJoinQuiet s l).time = s.time := by
  unfold countJoinQuiet; repeat' split
  all_goals simp
@[simp] theorem countJoinQuiet_reply (s : State) (l : List Level) :
    (countJoinQuiet s l).reply = s.reply := by
  unfold countJoinQuiet; repeat' split
  all_goals simp
@[simp] theorem countJoinQuiet_shiftedOut (s : State) (l : List Level) :
    (countJoinQuiet s l).shiftedOut = s.shiftedOut := by
  unfold countJoinQuiet; repeat' split
  all_goals simp
@[simp] theorem countJoinQuiet_draws (s : State) (l : List Level) :
    (countJoinQuiet s l).draws = s.draws := by
  unfold countJoinQuiet; repeat' split
  all_goals simp
@[simp] theorem countJoinQuiet_pending (s : State) (l : List Level) :
    (countJoinQuiet s l).pending = s.pending := by
  unfold countJoinQuiet; repeat' split
  all_goals simp
@[simp] theorem countJoinQuiet_record (s : State) (l : List Level) (who : Station) :
    (countJoinQuiet s l).record who = s.record who := State.record_congr (by simp) who
@[simp] theorem countJoinQuiet_own (s : State) (l : List Level) :
    (countJoinQuiet s l).own = s.own := State.own_congr (by simp)
@[simp] theorem countJoinQuiet_rt (s : State) (l : List Level) (j : EntryIx) :
    (countJoinQuiet s l).rt j = s.rt j := State.rt_congr (by simp) j
@[simp] theorem countJoinQuiet_cfg (s : State) (l : List Level) (j : EntryIx) :
    (countJoinQuiet s l).cfg j = s.cfg j := State.cfg_congr (by simp) j

@[simp] theorem setScore_entries (s : State) (n : Nat) :
    (setScore s n).entries = s.entries := by
  unfold setScore; repeat' split
  all_goals simp
@[simp] theorem setScore_liu (s : State) (n : Nat) :
    (setScore s n).liu = s.liu := by
  unfold setScore; repeat' split
  all_goals simp
@[simp] theorem setScore_verdict (s : State) (n : Nat) :
    (setScore s n).verdict = s.verdict := by
  unfold setScore; repeat' split
  all_goals simp
@[simp] theorem setScore_announce (s : State) (n : Nat) :
    (setScore s n).announce = s.announce := by
  unfold setScore; repeat' split
  all_goals simp
@[simp] theorem setScore_inFlight (s : State) (n : Nat) :
    (setScore s n).inFlight = s.inFlight := by
  unfold setScore; repeat' split
  all_goals simp
@[simp] theorem setScore_pulls (s : State) (n : Nat) :
    (setScore s n).pulls = s.pulls := by
  unfold setScore; repeat' split
  all_goals simp
@[simp] theorem setScore_roster (s : State) (n : Nat) :
    (setScore s n).roster = s.roster := by
  unfold setScore; repeat' split
  all_goals simp
@[simp] theorem setScore_announceTimer (s : State) (n : Nat) :
    (setScore s n).announceTimer = s.announceTimer := by
  unfold setScore; repeat' split
  all_goals simp
@[simp] theorem setScore_notices (s : State) (n : Nat) :
    (setScore s n).notices = s.notices := by
  unfold setScore; repeat' split
  all_goals simp
@[simp] theorem setScore_lifecycle (s : State) (n : Nat) :
    (setScore s n).lifecycle = s.lifecycle := by
  unfold setScore; repeat' split
  all_goals simp
@[simp] theorem setScore_params (s : State) (n : Nat) :
    (setScore s n).params = s.params := by
  unfold setScore; repeat' split
  all_goals simp
@[simp] theorem setScore_time (s : State) (n : Nat) :
    (setScore s n).time = s.time := by
  unfold setScore; repeat' split
  all_goals simp
@[simp] theorem setScore_reply (s : State) (n : Nat) :
    (setScore s n).reply = s.reply := by
  unfold setScore; repeat' split
  all_goals simp
@[simp] theorem setScore_shiftedOut (s : State) (n : Nat) :
    (setScore s n).shiftedOut = s.shiftedOut := by
  unfold setScore; repeat' split
  all_goals simp
@[simp] theorem setScore_draws (s : State) (n : Nat) :
    (setScore s n).draws = s.draws := by
  unfold setScore; repeat' split
  all_goals simp
@[simp] theorem setScore_pending (s : State) (n : Nat) :
    (setScore s n).pending = s.pending := by
  unfold setScore; repeat' split
  all_goals simp
@[simp] theorem setScore_record (s : State) (n : Nat) (who : Station) :
    (setScore s n).record who = s.record who := State.record_congr (by simp) who
@[simp] theorem setScore_own (s : State) (n : Nat) :
    (setScore s n).own = s.own := State.own_congr (by simp)
@[simp] theorem setScore_rt (s : State) (n : Nat) (j : EntryIx) :
    (setScore s n).rt j = s.rt j := State.rt_congr (by simp) j
@[simp] theorem setScore_cfg (s : State) (n : Nat) (j : EntryIx) :
    (setScore s n).cfg j = s.cfg j := State.cfg_congr (by simp) j

@[simp] theorem scoreOutcome_entries (s : State) (o : TxOutcome) :
    (scoreOutcome s o).entries = s.entries := by
  unfold scoreOutcome; repeat' split
  all_goals simp
@[simp] theorem scoreOutcome_liu (s : State) (o : TxOutcome) :
    (scoreOutcome s o).liu = s.liu := by
  unfold scoreOutcome; repeat' split
  all_goals simp
@[simp] theorem scoreOutcome_verdict (s : State) (o : TxOutcome) :
    (scoreOutcome s o).verdict = s.verdict := by
  unfold scoreOutcome; repeat' split
  all_goals simp
@[simp] theorem scoreOutcome_announce (s : State) (o : TxOutcome) :
    (scoreOutcome s o).announce = s.announce := by
  unfold scoreOutcome; repeat' split
  all_goals simp
@[simp] theorem scoreOutcome_inFlight (s : State) (o : TxOutcome) :
    (scoreOutcome s o).inFlight = s.inFlight := by
  unfold scoreOutcome; repeat' split
  all_goals simp
@[simp] theorem scoreOutcome_pulls (s : State) (o : TxOutcome) :
    (scoreOutcome s o).pulls = s.pulls := by
  unfold scoreOutcome; repeat' split
  all_goals simp
@[simp] theorem scoreOutcome_roster (s : State) (o : TxOutcome) :
    (scoreOutcome s o).roster = s.roster := by
  unfold scoreOutcome; repeat' split
  all_goals simp
@[simp] theorem scoreOutcome_announceTimer (s : State) (o : TxOutcome) :
    (scoreOutcome s o).announceTimer = s.announceTimer := by
  unfold scoreOutcome; repeat' split
  all_goals simp
@[simp] theorem scoreOutcome_notices (s : State) (o : TxOutcome) :
    (scoreOutcome s o).notices = s.notices := by
  unfold scoreOutcome; repeat' split
  all_goals simp
@[simp] theorem scoreOutcome_lifecycle (s : State) (o : TxOutcome) :
    (scoreOutcome s o).lifecycle = s.lifecycle := by
  unfold scoreOutcome; repeat' split
  all_goals simp
@[simp] theorem scoreOutcome_params (s : State) (o : TxOutcome) :
    (scoreOutcome s o).params = s.params := by
  unfold scoreOutcome; repeat' split
  all_goals simp
@[simp] theorem scoreOutcome_time (s : State) (o : TxOutcome) :
    (scoreOutcome s o).time = s.time := by
  unfold scoreOutcome; repeat' split
  all_goals simp
@[simp] theorem scoreOutcome_reply (s : State) (o : TxOutcome) :
    (scoreOutcome s o).reply = s.reply := by
  unfold scoreOutcome; repeat' split
  all_goals simp
@[simp] theorem scoreOutcome_shiftedOut (s : State) (o : TxOutcome) :
    (scoreOutcome s o).shiftedOut = s.shiftedOut := by
  unfold scoreOutcome; repeat' split
  all_goals simp
@[simp] theorem scoreOutcome_draws (s : State) (o : TxOutcome) :
    (scoreOutcome s o).draws = s.draws := by
  unfold scoreOutcome; repeat' split
  all_goals simp
@[simp] theorem scoreOutcome_pending (s : State) (o : TxOutcome) :
    (scoreOutcome s o).pending = s.pending := by
  unfold scoreOutcome; repeat' split
  all_goals simp
@[simp] theorem scoreOutcome_record (s : State) (o : TxOutcome) (who : Station) :
    (scoreOutcome s o).record who = s.record who := State.record_congr (by simp) who
@[simp] theorem scoreOutcome_own (s : State) (o : TxOutcome) :
    (scoreOutcome s o).own = s.own := State.own_congr (by simp)
@[simp] theorem scoreOutcome_rt (s : State) (o : TxOutcome) (j : EntryIx) :
    (scoreOutcome s o).rt j = s.rt j := State.rt_congr (by simp) j
@[simp] theorem scoreOutcome_cfg (s : State) (o : TxOutcome) (j : EntryIx) :
    (scoreOutcome s o).cfg j = s.cfg j := State.cfg_congr (by simp) j

@[simp] theorem scoreReceiverFault_entries (s : State) (k : FaultKind) :
    (scoreReceiverFault s k).entries = s.entries := by
  unfold scoreReceiverFault; dsimp only; repeat' split
  all_goals simp
@[simp] theorem scoreReceiverFault_liu (s : State) (k : FaultKind) :
    (scoreReceiverFault s k).liu = s.liu := by
  unfold scoreReceiverFault; dsimp only; repeat' split
  all_goals simp
@[simp] theorem scoreReceiverFault_verdict (s : State) (k : FaultKind) :
    (scoreReceiverFault s k).verdict = s.verdict := by
  unfold scoreReceiverFault; dsimp only; repeat' split
  all_goals simp
@[simp] theorem scoreReceiverFault_announce (s : State) (k : FaultKind) :
    (scoreReceiverFault s k).announce = s.announce := by
  unfold scoreReceiverFault; dsimp only; repeat' split
  all_goals simp
@[simp] theorem scoreReceiverFault_inFlight (s : State) (k : FaultKind) :
    (scoreReceiverFault s k).inFlight = s.inFlight := by
  unfold scoreReceiverFault; dsimp only; repeat' split
  all_goals simp
@[simp] theorem scoreReceiverFault_pulls (s : State) (k : FaultKind) :
    (scoreReceiverFault s k).pulls = s.pulls := by
  unfold scoreReceiverFault; dsimp only; repeat' split
  all_goals simp
@[simp] theorem scoreReceiverFault_roster (s : State) (k : FaultKind) :
    (scoreReceiverFault s k).roster = s.roster := by
  unfold scoreReceiverFault; dsimp only; repeat' split
  all_goals simp
@[simp] theorem scoreReceiverFault_announceTimer (s : State) (k : FaultKind) :
    (scoreReceiverFault s k).announceTimer = s.announceTimer := by
  unfold scoreReceiverFault; dsimp only; repeat' split
  all_goals simp
@[simp] theorem scoreReceiverFault_notices (s : State) (k : FaultKind) :
    (scoreReceiverFault s k).notices = s.notices := by
  unfold scoreReceiverFault; dsimp only; repeat' split
  all_goals simp
@[simp] theorem scoreReceiverFault_lifecycle (s : State) (k : FaultKind) :
    (scoreReceiverFault s k).lifecycle = s.lifecycle := by
  unfold scoreReceiverFault; dsimp only; repeat' split
  all_goals simp
@[simp] theorem scoreReceiverFault_params (s : State) (k : FaultKind) :
    (scoreReceiverFault s k).params = s.params := by
  unfold scoreReceiverFault; dsimp only; repeat' split
  all_goals simp
@[simp] theorem scoreReceiverFault_time (s : State) (k : FaultKind) :
    (scoreReceiverFault s k).time = s.time := by
  unfold scoreReceiverFault; dsimp only; repeat' split
  all_goals simp
@[simp] theorem scoreReceiverFault_reply (s : State) (k : FaultKind) :
    (scoreReceiverFault s k).reply = s.reply := by
  unfold scoreReceiverFault; dsimp only; repeat' split
  all_goals simp
@[simp] theorem scoreReceiverFault_shiftedOut (s : State) (k : FaultKind) :
    (scoreReceiverFault s k).shiftedOut = s.shiftedOut := by
  unfold scoreReceiverFault; dsimp only; repeat' split
  all_goals simp
@[simp] theorem scoreReceiverFault_draws (s : State) (k : FaultKind) :
    (scoreReceiverFault s k).draws = s.draws := by
  unfold scoreReceiverFault; dsimp only; repeat' split
  all_goals simp
@[simp] theorem scoreReceiverFault_pending (s : State) (k : FaultKind) :
    (scoreReceiverFault s k).pending = s.pending := by
  unfold scoreReceiverFault; dsimp only; repeat' split
  all_goals simp
@[simp] theorem scoreReceiverFault_record (s : State) (k : FaultKind) (who : Station) :
    (scoreReceiverFault s k).record who = s.record who := State.record_congr (by simp) who
@[simp] theorem scoreReceiverFault_own (s : State) (k : FaultKind) :
    (scoreReceiverFault s k).own = s.own := State.own_congr (by simp)
@[simp] theorem scoreReceiverFault_rt (s : State) (k : FaultKind) (j : EntryIx) :
    (scoreReceiverFault s k).rt j = s.rt j := State.rt_congr (by simp) j
@[simp] theorem scoreReceiverFault_cfg (s : State) (k : FaultKind) (j : EntryIx) :
    (scoreReceiverFault s k).cfg j = s.cfg j := State.cfg_congr (by simp) j

@[simp] theorem leaveMuted_entries (s : State) (n : Nat) :
    (leaveMuted s n).entries = s.entries := by
  unfold leaveMuted; simp
@[simp] theorem leaveMuted_verdict (s : State) (n : Nat) :
    (leaveMuted s n).verdict = s.verdict := by
  unfold leaveMuted; simp
@[simp] theorem leaveMuted_inFlight (s : State) (n : Nat) :
    (leaveMuted s n).inFlight = s.inFlight := by
  unfold leaveMuted; simp
@[simp] theorem leaveMuted_pulls (s : State) (n : Nat) :
    (leaveMuted s n).pulls = s.pulls := by
  unfold leaveMuted; simp
@[simp] theorem leaveMuted_roster (s : State) (n : Nat) :
    (leaveMuted s n).roster = s.roster := by
  unfold leaveMuted; simp
@[simp] theorem leaveMuted_announceTimer (s : State) (n : Nat) :
    (leaveMuted s n).announceTimer = s.announceTimer := by
  unfold leaveMuted; simp
@[simp] theorem leaveMuted_notices (s : State) (n : Nat) :
    (leaveMuted s n).notices = s.notices := by
  unfold leaveMuted; simp
@[simp] theorem leaveMuted_lifecycle (s : State) (n : Nat) :
    (leaveMuted s n).lifecycle = s.lifecycle := by
  unfold leaveMuted; simp
@[simp] theorem leaveMuted_params (s : State) (n : Nat) :
    (leaveMuted s n).params = s.params := by
  unfold leaveMuted; simp
@[simp] theorem leaveMuted_time (s : State) (n : Nat) :
    (leaveMuted s n).time = s.time := by
  unfold leaveMuted; simp
@[simp] theorem leaveMuted_reply (s : State) (n : Nat) :
    (leaveMuted s n).reply = s.reply := by
  unfold leaveMuted; simp
@[simp] theorem leaveMuted_shiftedOut (s : State) (n : Nat) :
    (leaveMuted s n).shiftedOut = s.shiftedOut := by
  unfold leaveMuted; simp
@[simp] theorem leaveMuted_draws (s : State) (n : Nat) :
    (leaveMuted s n).draws = s.draws := by
  unfold leaveMuted; simp
@[simp] theorem leaveMuted_pending (s : State) (n : Nat) :
    (leaveMuted s n).pending = s.pending := by
  unfold leaveMuted; simp
@[simp] theorem leaveMuted_record (s : State) (n : Nat) (who : Station) :
    (leaveMuted s n).record who = s.record who := State.record_congr (by simp) who
@[simp] theorem leaveMuted_own (s : State) (n : Nat) :
    (leaveMuted s n).own = s.own := State.own_congr (by simp)
@[simp] theorem leaveMuted_rt (s : State) (n : Nat) (j : EntryIx) :
    (leaveMuted s n).rt j = s.rt j := State.rt_congr (by simp) j
@[simp] theorem leaveMuted_cfg (s : State) (n : Nat) (j : EntryIx) :
    (leaveMuted s n).cfg j = s.cfg j := State.cfg_congr (by simp) j

@[simp] theorem scoreCompletion_entries (s : State)  :
    (scoreCompletion s).entries = s.entries := by
  unfold scoreCompletion; repeat' split
  all_goals simp
@[simp] theorem scoreCompletion_verdict (s : State)  :
    (scoreCompletion s).verdict = s.verdict := by
  unfold scoreCompletion; repeat' split
  all_goals simp
@[simp] theorem scoreCompletion_inFlight (s : State)  :
    (scoreCompletion s).inFlight = s.inFlight := by
  unfold scoreCompletion; repeat' split
  all_goals simp
@[simp] theorem scoreCompletion_pulls (s : State)  :
    (scoreCompletion s).pulls = s.pulls := by
  unfold scoreCompletion; repeat' split
  all_goals simp
@[simp] theorem scoreCompletion_roster (s : State)  :
    (scoreCompletion s).roster = s.roster := by
  unfold scoreCompletion; repeat' split
  all_goals simp
@[simp] theorem scoreCompletion_announceTimer (s : State)  :
    (scoreCompletion s).announceTimer = s.announceTimer := by
  unfold scoreCompletion; repeat' split
  all_goals simp
@[simp] theorem scoreCompletion_notices (s : State)  :
    (scoreCompletion s).notices = s.notices := by
  unfold scoreCompletion; repeat' split
  all_goals simp
@[simp] theorem scoreCompletion_lifecycle (s : State)  :
    (scoreCompletion s).lifecycle = s.lifecycle := by
  unfold scoreCompletion; repeat' split
  all_goals simp
@[simp] theorem scoreCompletion_params (s : State)  :
    (scoreCompletion s).params = s.params := by
  unfold scoreCompletion; repeat' split
  all_goals simp
@[simp] theorem scoreCompletion_time (s : State)  :
    (scoreCompletion s).time = s.time := by
  unfold scoreCompletion; repeat' split
  all_goals simp
@[simp] theorem scoreCompletion_reply (s : State)  :
    (scoreCompletion s).reply = s.reply := by
  unfold scoreCompletion; repeat' split
  all_goals simp
@[simp] theorem scoreCompletion_shiftedOut (s : State)  :
    (scoreCompletion s).shiftedOut = s.shiftedOut := by
  unfold scoreCompletion; repeat' split
  all_goals simp
@[simp] theorem scoreCompletion_draws (s : State)  :
    (scoreCompletion s).draws = s.draws := by
  unfold scoreCompletion; repeat' split
  all_goals simp
@[simp] theorem scoreCompletion_pending (s : State)  :
    (scoreCompletion s).pending = s.pending := by
  unfold scoreCompletion; repeat' split
  all_goals simp
@[simp] theorem scoreCompletion_record (s : State)  (who : Station) :
    (scoreCompletion s).record who = s.record who := State.record_congr (by simp) who
@[simp] theorem scoreCompletion_own (s : State)  :
    (scoreCompletion s).own = s.own := State.own_congr (by simp)
@[simp] theorem scoreCompletion_rt (s : State)  (j : EntryIx) :
    (scoreCompletion s).rt j = s.rt j := State.rt_congr (by simp) j
@[simp] theorem scoreCompletion_cfg (s : State)  (j : EntryIx) :
    (scoreCompletion s).cfg j = s.cfg j := State.cfg_congr (by simp) j

/-! ### The roster (R131 to R137) -/

@[simp] theorem takeEvidence_entries (s : State) (source : Option Station) (w : Window) :
    (takeEvidence s source w).entries = s.entries := by
  simp only [takeEvidence, State.mapRoster]
@[simp] theorem takeEvidence_liu (s : State) (source : Option Station) (w : Window) :
    (takeEvidence s source w).liu = s.liu := by
  simp only [takeEvidence, State.mapRoster]
@[simp] theorem takeEvidence_verdict (s : State) (source : Option Station) (w : Window) :
    (takeEvidence s source w).verdict = s.verdict := by
  simp only [takeEvidence, State.mapRoster]
@[simp] theorem takeEvidence_announce (s : State) (source : Option Station) (w : Window) :
    (takeEvidence s source w).announce = s.announce := by
  simp only [takeEvidence, State.mapRoster]
@[simp] theorem takeEvidence_inFlight (s : State) (source : Option Station) (w : Window) :
    (takeEvidence s source w).inFlight = s.inFlight := by
  simp only [takeEvidence, State.mapRoster]
@[simp] theorem takeEvidence_pulls (s : State) (source : Option Station) (w : Window) :
    (takeEvidence s source w).pulls = s.pulls := by
  simp only [takeEvidence, State.mapRoster]
@[simp] theorem takeEvidence_announceTimer (s : State) (source : Option Station) (w : Window) :
    (takeEvidence s source w).announceTimer = s.announceTimer := by
  simp only [takeEvidence, State.mapRoster]
@[simp] theorem takeEvidence_fcu (s : State) (source : Option Station) (w : Window) :
    (takeEvidence s source w).fcu = s.fcu := by
  simp only [takeEvidence, State.mapRoster]
@[simp] theorem takeEvidence_notices (s : State) (source : Option Station) (w : Window) :
    (takeEvidence s source w).notices = s.notices := by
  simp only [takeEvidence, State.mapRoster]
@[simp] theorem takeEvidence_flags (s : State) (source : Option Station) (w : Window) :
    (takeEvidence s source w).flags = s.flags := by
  simp only [takeEvidence, State.mapRoster]
@[simp] theorem takeEvidence_lifecycle (s : State) (source : Option Station) (w : Window) :
    (takeEvidence s source w).lifecycle = s.lifecycle := by
  simp only [takeEvidence, State.mapRoster]
@[simp] theorem takeEvidence_params (s : State) (source : Option Station) (w : Window) :
    (takeEvidence s source w).params = s.params := by
  simp only [takeEvidence, State.mapRoster]
@[simp] theorem takeEvidence_time (s : State) (source : Option Station) (w : Window) :
    (takeEvidence s source w).time = s.time := by
  simp only [takeEvidence, State.mapRoster]
@[simp] theorem takeEvidence_reply (s : State) (source : Option Station) (w : Window) :
    (takeEvidence s source w).reply = s.reply := by
  simp only [takeEvidence, State.mapRoster]
@[simp] theorem takeEvidence_shiftedOut (s : State) (source : Option Station) (w : Window) :
    (takeEvidence s source w).shiftedOut = s.shiftedOut := by
  simp only [takeEvidence, State.mapRoster]
@[simp] theorem takeEvidence_draws (s : State) (source : Option Station) (w : Window) :
    (takeEvidence s source w).draws = s.draws := by
  simp only [takeEvidence, State.mapRoster]
@[simp] theorem takeEvidence_pending (s : State) (source : Option Station) (w : Window) :
    (takeEvidence s source w).pending = s.pending := by
  simp only [takeEvidence, State.mapRoster]
@[simp] theorem takeEvidence_own (s : State) (source : Option Station) (w : Window) :
    (takeEvidence s source w).own = s.own := State.own_congr (by simp)
@[simp] theorem takeEvidence_rt (s : State) (source : Option Station) (w : Window) (j : EntryIx) :
    (takeEvidence s source w).rt j = s.rt j := State.rt_congr (by simp) j
@[simp] theorem takeEvidence_cfg (s : State) (source : Option Station) (w : Window) (j : EntryIx) :
    (takeEvidence s source w).cfg j = s.cfg j := State.cfg_congr (by simp) j

@[simp] theorem setRecord_entries (s : State) (st : Station) (r : RosterRecord) :
    (setRecord s st r).entries = s.entries := by
  simp only [setRecord, State.mapRoster]
@[simp] theorem setRecord_liu (s : State) (st : Station) (r : RosterRecord) :
    (setRecord s st r).liu = s.liu := by
  simp only [setRecord, State.mapRoster]
@[simp] theorem setRecord_verdict (s : State) (st : Station) (r : RosterRecord) :
    (setRecord s st r).verdict = s.verdict := by
  simp only [setRecord, State.mapRoster]
@[simp] theorem setRecord_announce (s : State) (st : Station) (r : RosterRecord) :
    (setRecord s st r).announce = s.announce := by
  simp only [setRecord, State.mapRoster]
@[simp] theorem setRecord_inFlight (s : State) (st : Station) (r : RosterRecord) :
    (setRecord s st r).inFlight = s.inFlight := by
  simp only [setRecord, State.mapRoster]
@[simp] theorem setRecord_pulls (s : State) (st : Station) (r : RosterRecord) :
    (setRecord s st r).pulls = s.pulls := by
  simp only [setRecord, State.mapRoster]
@[simp] theorem setRecord_announceTimer (s : State) (st : Station) (r : RosterRecord) :
    (setRecord s st r).announceTimer = s.announceTimer := by
  simp only [setRecord, State.mapRoster]
@[simp] theorem setRecord_fcu (s : State) (st : Station) (r : RosterRecord) :
    (setRecord s st r).fcu = s.fcu := by
  simp only [setRecord, State.mapRoster]
@[simp] theorem setRecord_notices (s : State) (st : Station) (r : RosterRecord) :
    (setRecord s st r).notices = s.notices := by
  simp only [setRecord, State.mapRoster]
@[simp] theorem setRecord_flags (s : State) (st : Station) (r : RosterRecord) :
    (setRecord s st r).flags = s.flags := by
  simp only [setRecord, State.mapRoster]
@[simp] theorem setRecord_lifecycle (s : State) (st : Station) (r : RosterRecord) :
    (setRecord s st r).lifecycle = s.lifecycle := by
  simp only [setRecord, State.mapRoster]
@[simp] theorem setRecord_params (s : State) (st : Station) (r : RosterRecord) :
    (setRecord s st r).params = s.params := by
  simp only [setRecord, State.mapRoster]
@[simp] theorem setRecord_time (s : State) (st : Station) (r : RosterRecord) :
    (setRecord s st r).time = s.time := by
  simp only [setRecord, State.mapRoster]
@[simp] theorem setRecord_reply (s : State) (st : Station) (r : RosterRecord) :
    (setRecord s st r).reply = s.reply := by
  simp only [setRecord, State.mapRoster]
@[simp] theorem setRecord_shiftedOut (s : State) (st : Station) (r : RosterRecord) :
    (setRecord s st r).shiftedOut = s.shiftedOut := by
  simp only [setRecord, State.mapRoster]
@[simp] theorem setRecord_draws (s : State) (st : Station) (r : RosterRecord) :
    (setRecord s st r).draws = s.draws := by
  simp only [setRecord, State.mapRoster]
@[simp] theorem setRecord_pending (s : State) (st : Station) (r : RosterRecord) :
    (setRecord s st r).pending = s.pending := by
  simp only [setRecord, State.mapRoster]
@[simp] theorem setRecord_own (s : State) (st : Station) (r : RosterRecord) :
    (setRecord s st r).own = s.own := State.own_congr (by simp)
@[simp] theorem setRecord_rt (s : State) (st : Station) (r : RosterRecord) (j : EntryIx) :
    (setRecord s st r).rt j = s.rt j := State.rt_congr (by simp) j
@[simp] theorem setRecord_cfg (s : State) (st : Station) (r : RosterRecord) (j : EntryIx) :
    (setRecord s st r).cfg j = s.cfg j := State.cfg_congr (by simp) j

@[simp] theorem restartAnnounceTimer_entries (s : State)  :
    (restartAnnounceTimer s).entries = s.entries := by
  unfold restartAnnounceTimer; repeat' split
  all_goals simp
@[simp] theorem restartAnnounceTimer_liu (s : State)  :
    (restartAnnounceTimer s).liu = s.liu := by
  unfold restartAnnounceTimer; repeat' split
  all_goals simp
@[simp] theorem restartAnnounceTimer_verdict (s : State)  :
    (restartAnnounceTimer s).verdict = s.verdict := by
  unfold restartAnnounceTimer; repeat' split
  all_goals simp
@[simp] theorem restartAnnounceTimer_announce (s : State)  :
    (restartAnnounceTimer s).announce = s.announce := by
  unfold restartAnnounceTimer; repeat' split
  all_goals simp
@[simp] theorem restartAnnounceTimer_inFlight (s : State)  :
    (restartAnnounceTimer s).inFlight = s.inFlight := by
  unfold restartAnnounceTimer; repeat' split
  all_goals simp
@[simp] theorem restartAnnounceTimer_pulls (s : State)  :
    (restartAnnounceTimer s).pulls = s.pulls := by
  unfold restartAnnounceTimer; repeat' split
  all_goals simp
@[simp] theorem restartAnnounceTimer_roster (s : State)  :
    (restartAnnounceTimer s).roster = s.roster := by
  unfold restartAnnounceTimer; repeat' split
  all_goals simp
@[simp] theorem restartAnnounceTimer_fcu (s : State)  :
    (restartAnnounceTimer s).fcu = s.fcu := by
  unfold restartAnnounceTimer; repeat' split
  all_goals simp
@[simp] theorem restartAnnounceTimer_notices (s : State)  :
    (restartAnnounceTimer s).notices = s.notices := by
  unfold restartAnnounceTimer; repeat' split
  all_goals simp
@[simp] theorem restartAnnounceTimer_flags (s : State)  :
    (restartAnnounceTimer s).flags = s.flags := by
  unfold restartAnnounceTimer; repeat' split
  all_goals simp
@[simp] theorem restartAnnounceTimer_lifecycle (s : State)  :
    (restartAnnounceTimer s).lifecycle = s.lifecycle := by
  unfold restartAnnounceTimer; repeat' split
  all_goals simp
@[simp] theorem restartAnnounceTimer_params (s : State)  :
    (restartAnnounceTimer s).params = s.params := by
  unfold restartAnnounceTimer; repeat' split
  all_goals simp
@[simp] theorem restartAnnounceTimer_time (s : State)  :
    (restartAnnounceTimer s).time = s.time := by
  unfold restartAnnounceTimer; repeat' split
  all_goals simp
@[simp] theorem restartAnnounceTimer_reply (s : State)  :
    (restartAnnounceTimer s).reply = s.reply := by
  unfold restartAnnounceTimer; repeat' split
  all_goals simp
@[simp] theorem restartAnnounceTimer_shiftedOut (s : State)  :
    (restartAnnounceTimer s).shiftedOut = s.shiftedOut := by
  unfold restartAnnounceTimer; repeat' split
  all_goals simp
@[simp] theorem restartAnnounceTimer_draws (s : State)  :
    (restartAnnounceTimer s).draws = s.draws := by
  unfold restartAnnounceTimer; repeat' split
  all_goals simp
@[simp] theorem restartAnnounceTimer_pending (s : State)  :
    (restartAnnounceTimer s).pending = s.pending := by
  unfold restartAnnounceTimer; repeat' split
  all_goals simp
@[simp] theorem restartAnnounceTimer_record (s : State)  (who : Station) :
    (restartAnnounceTimer s).record who = s.record who := State.record_congr (by simp) who
@[simp] theorem restartAnnounceTimer_own (s : State)  :
    (restartAnnounceTimer s).own = s.own := State.own_congr (by simp)
@[simp] theorem restartAnnounceTimer_rt (s : State)  (j : EntryIx) :
    (restartAnnounceTimer s).rt j = s.rt j := State.rt_congr (by simp) j
@[simp] theorem restartAnnounceTimer_cfg (s : State)  (j : EntryIx) :
    (restartAnnounceTimer s).cfg j = s.cfg j := State.cfg_congr (by simp) j

/-- The postings of one happening touch neither the tables nor the configuration. -/
theorem postAll_keeps {β : Type} (read : State → β) (r : ReasonSet)
    (h : ∀ s i, read (post s i r) = read s) (is : List EntryIx) (s : State) :
    read (is.foldl (fun s i => post s i r) s) = read s := foldl_keeps read _ h is s

@[simp] theorem orphan_liu (s : State) (st : Station) :
    (orphan s st).liu = s.liu := by
  unfold orphan; dsimp only; rw [takeAutoPulls_liu, postAll_keeps (·.liu) _ (fun s i => post_liu s i _)]; simp
@[simp] theorem orphan_verdict (s : State) (st : Station) :
    (orphan s st).verdict = s.verdict := by
  unfold orphan; dsimp only; rw [takeAutoPulls_verdict, postAll_keeps (·.verdict) _ (fun s i => post_verdict s i _)]; simp
@[simp] theorem orphan_announce (s : State) (st : Station) :
    (orphan s st).announce = s.announce := by
  unfold orphan; dsimp only; rw [takeAutoPulls_announce, postAll_keeps (·.announce) _ (fun s i => post_announce s i _)]; simp
@[simp] theorem orphan_inFlight (s : State) (st : Station) :
    (orphan s st).inFlight = s.inFlight := by
  unfold orphan; dsimp only; rw [takeAutoPulls_inFlight, postAll_keeps (·.inFlight) _ (fun s i => post_inFlight s i _)]; simp
@[simp] theorem orphan_roster (s : State) (st : Station) :
    (orphan s st).roster = s.roster := by
  unfold orphan; dsimp only; rw [takeAutoPulls_roster, postAll_keeps (·.roster) _ (fun s i => post_roster s i _)]; simp
@[simp] theorem orphan_announceTimer (s : State) (st : Station) :
    (orphan s st).announceTimer = s.announceTimer := by
  unfold orphan; dsimp only; rw [takeAutoPulls_announceTimer, postAll_keeps (·.announceTimer) _ (fun s i => post_announceTimer s i _)]; simp
@[simp] theorem orphan_fcu (s : State) (st : Station) :
    (orphan s st).fcu = s.fcu := by
  unfold orphan; dsimp only; rw [takeAutoPulls_fcu, postAll_keeps (·.fcu) _ (fun s i => post_fcu s i _)]; simp
@[simp] theorem orphan_lifecycle (s : State) (st : Station) :
    (orphan s st).lifecycle = s.lifecycle := by
  unfold orphan; dsimp only; rw [takeAutoPulls_lifecycle, postAll_keeps (·.lifecycle) _ (fun s i => post_lifecycle s i _)]; simp
@[simp] theorem orphan_params (s : State) (st : Station) :
    (orphan s st).params = s.params := by
  unfold orphan; dsimp only; rw [takeAutoPulls_params, postAll_keeps (·.params) _ (fun s i => post_params s i _)]; simp
@[simp] theorem orphan_time (s : State) (st : Station) :
    (orphan s st).time = s.time := by
  unfold orphan; dsimp only; rw [takeAutoPulls_time, postAll_keeps (·.time) _ (fun s i => post_time s i _)]; simp
@[simp] theorem orphan_reply (s : State) (st : Station) :
    (orphan s st).reply = s.reply := by
  unfold orphan; dsimp only; rw [takeAutoPulls_reply, postAll_keeps (·.reply) _ (fun s i => post_reply s i _)]; simp
@[simp] theorem orphan_shiftedOut (s : State) (st : Station) :
    (orphan s st).shiftedOut = s.shiftedOut := by
  unfold orphan; dsimp only; rw [takeAutoPulls_shiftedOut, postAll_keeps (·.shiftedOut) _ (fun s i => post_shiftedOut s i _)]; simp
@[simp] theorem orphan_pending (s : State) (st : Station) :
    (orphan s st).pending = s.pending := by
  unfold orphan; dsimp only; rw [takeAutoPulls_pending, postAll_keeps (·.pending) _ (fun s i => post_pending s i _)]; simp
@[simp] theorem orphan_record (s : State) (st : Station) (who : Station) :
    (orphan s st).record who = s.record who := State.record_congr (by simp) who
@[simp] theorem orphan_own (s : State) (st : Station) :
    (orphan s st).own = s.own := State.own_congr (by simp)

@[simp] theorem orphan_cfg (s : State) (st : Station) (j : EntryIx) :
    (orphan s st).cfg j = s.cfg j := by
  unfold orphan; dsimp only; rw [takeAutoPulls_cfg, postAll_keeps (·.cfg j) _ (fun s i => post_cfg s i _ j)]; simp

@[simp] theorem reportLoss_liu (s : State) (st : Station) :
    (reportLoss s st).liu = s.liu := by
  exact foldl_keeps (·.liu) _ (fun s i => failYield_liu s i) _ _
@[simp] theorem reportLoss_verdict (s : State) (st : Station) :
    (reportLoss s st).verdict = s.verdict := by
  exact foldl_keeps (·.verdict) _ (fun s i => failYield_verdict s i) _ _
@[simp] theorem reportLoss_announce (s : State) (st : Station) :
    (reportLoss s st).announce = s.announce := by
  exact foldl_keeps (·.announce) _ (fun s i => failYield_announce s i) _ _
@[simp] theorem reportLoss_inFlight (s : State) (st : Station) :
    (reportLoss s st).inFlight = s.inFlight := by
  exact foldl_keeps (·.inFlight) _ (fun s i => failYield_inFlight s i) _ _
@[simp] theorem reportLoss_pulls (s : State) (st : Station) :
    (reportLoss s st).pulls = s.pulls := by
  exact foldl_keeps (·.pulls) _ (fun s i => failYield_pulls s i) _ _
@[simp] theorem reportLoss_roster (s : State) (st : Station) :
    (reportLoss s st).roster = s.roster := by
  exact foldl_keeps (·.roster) _ (fun s i => failYield_roster s i) _ _
@[simp] theorem reportLoss_announceTimer (s : State) (st : Station) :
    (reportLoss s st).announceTimer = s.announceTimer := by
  exact foldl_keeps (·.announceTimer) _ (fun s i => failYield_announceTimer s i) _ _
@[simp] theorem reportLoss_fcu (s : State) (st : Station) :
    (reportLoss s st).fcu = s.fcu := by
  exact foldl_keeps (·.fcu) _ (fun s i => failYield_fcu s i) _ _
@[simp] theorem reportLoss_lifecycle (s : State) (st : Station) :
    (reportLoss s st).lifecycle = s.lifecycle := by
  exact foldl_keeps (·.lifecycle) _ (fun s i => failYield_lifecycle s i) _ _
@[simp] theorem reportLoss_params (s : State) (st : Station) :
    (reportLoss s st).params = s.params := by
  exact foldl_keeps (·.params) _ (fun s i => failYield_params s i) _ _
@[simp] theorem reportLoss_time (s : State) (st : Station) :
    (reportLoss s st).time = s.time := by
  exact foldl_keeps (·.time) _ (fun s i => failYield_time s i) _ _
@[simp] theorem reportLoss_reply (s : State) (st : Station) :
    (reportLoss s st).reply = s.reply := by
  exact foldl_keeps (·.reply) _ (fun s i => failYield_reply s i) _ _
@[simp] theorem reportLoss_shiftedOut (s : State) (st : Station) :
    (reportLoss s st).shiftedOut = s.shiftedOut := by
  exact foldl_keeps (·.shiftedOut) _ (fun s i => failYield_shiftedOut s i) _ _
@[simp] theorem reportLoss_draws (s : State) (st : Station) :
    (reportLoss s st).draws = s.draws := by
  exact foldl_keeps (·.draws) _ (fun s i => failYield_draws s i) _ _
@[simp] theorem reportLoss_pending (s : State) (st : Station) :
    (reportLoss s st).pending = s.pending := by
  exact foldl_keeps (·.pending) _ (fun s i => failYield_pending s i) _ _
@[simp] theorem reportLoss_record (s : State) (st : Station) (who : Station) :
    (reportLoss s st).record who = s.record who := State.record_congr (by simp) who
@[simp] theorem reportLoss_own (s : State) (st : Station) :
    (reportLoss s st).own = s.own := State.own_congr (by simp)

@[simp] theorem reportLoss_cfg (s : State) (st : Station) (j : EntryIx) :
    (reportLoss s st).cfg j = s.cfg j := by
  exact foldl_keeps (·.cfg j) _ (fun s i => failYield_cfg s i j) _ _

@[simp] theorem orphanAndReport_liu (s : State) (st : Station) :
    (orphanAndReport s st).liu = s.liu := by
  unfold orphanAndReport; split
  · dsimp only; split <;> simp
  · simp
@[simp] theorem orphanAndReport_verdict (s : State) (st : Station) :
    (orphanAndReport s st).verdict = s.verdict := by
  unfold orphanAndReport; split
  · dsimp only; split <;> simp
  · simp
@[simp] theorem orphanAndReport_announce (s : State) (st : Station) :
    (orphanAndReport s st).announce = s.announce := by
  unfold orphanAndReport; split
  · dsimp only; split <;> simp
  · simp
@[simp] theorem orphanAndReport_inFlight (s : State) (st : Station) :
    (orphanAndReport s st).inFlight = s.inFlight := by
  unfold orphanAndReport; split
  · dsimp only; split <;> simp
  · simp
@[simp] theorem orphanAndReport_roster (s : State) (st : Station) :
    (orphanAndReport s st).roster = s.roster := by
  unfold orphanAndReport; split
  · dsimp only; split <;> simp
  · simp
@[simp] theorem orphanAndReport_announceTimer (s : State) (st : Station) :
    (orphanAndReport s st).announceTimer = s.announceTimer := by
  unfold orphanAndReport; split
  · dsimp only; split <;> simp
  · simp
@[simp] theorem orphanAndReport_fcu (s : State) (st : Station) :
    (orphanAndReport s st).fcu = s.fcu := by
  unfold orphanAndReport; split
  · dsimp only; split <;> simp
  · simp
@[simp] theorem orphanAndReport_lifecycle (s : State) (st : Station) :
    (orphanAndReport s st).lifecycle = s.lifecycle := by
  unfold orphanAndReport; split
  · dsimp only; split <;> simp
  · simp
@[simp] theorem orphanAndReport_params (s : State) (st : Station) :
    (orphanAndReport s st).params = s.params := by
  unfold orphanAndReport; split
  · dsimp only; split <;> simp
  · simp
@[simp] theorem orphanAndReport_time (s : State) (st : Station) :
    (orphanAndReport s st).time = s.time := by
  unfold orphanAndReport; split
  · dsimp only; split <;> simp
  · simp
@[simp] theorem orphanAndReport_reply (s : State) (st : Station) :
    (orphanAndReport s st).reply = s.reply := by
  unfold orphanAndReport; split
  · dsimp only; split <;> simp
  · simp
@[simp] theorem orphanAndReport_shiftedOut (s : State) (st : Station) :
    (orphanAndReport s st).shiftedOut = s.shiftedOut := by
  unfold orphanAndReport; split
  · dsimp only; split <;> simp
  · simp
@[simp] theorem orphanAndReport_pending (s : State) (st : Station) :
    (orphanAndReport s st).pending = s.pending := by
  unfold orphanAndReport; split
  · dsimp only; split <;> simp
  · simp
@[simp] theorem orphanAndReport_record (s : State) (st : Station) (who : Station) :
    (orphanAndReport s st).record who = s.record who := State.record_congr (by simp) who
@[simp] theorem orphanAndReport_own (s : State) (st : Station) :
    (orphanAndReport s st).own = s.own := State.own_congr (by simp)

@[simp] theorem orphanAndReport_cfg (s : State) (st : Station) (j : EntryIx) :
    (orphanAndReport s st).cfg j = s.cfg j := by
  unfold orphanAndReport; split
  · dsimp only; split <;> simp <;> rfl
  · simp

@[simp] theorem hearAnnounce_liu (s : State) (st : Station) (t : AnnounceType) (w : Window) :
    (hearAnnounce s st t w).liu = s.liu := by
  unfold hearAnnounce; cases t <;> simp
@[simp] theorem hearAnnounce_verdict (s : State) (st : Station) (t : AnnounceType) (w : Window) :
    (hearAnnounce s st t w).verdict = s.verdict := by
  unfold hearAnnounce; cases t <;> simp
@[simp] theorem hearAnnounce_announce (s : State) (st : Station) (t : AnnounceType) (w : Window) :
    (hearAnnounce s st t w).announce = s.announce := by
  unfold hearAnnounce; cases t <;> simp
@[simp] theorem hearAnnounce_inFlight (s : State) (st : Station) (t : AnnounceType) (w : Window) :
    (hearAnnounce s st t w).inFlight = s.inFlight := by
  unfold hearAnnounce; cases t <;> simp
@[simp] theorem hearAnnounce_announceTimer (s : State) (st : Station) (t : AnnounceType) (w : Window) :
    (hearAnnounce s st t w).announceTimer = s.announceTimer := by
  unfold hearAnnounce; cases t <;> simp
@[simp] theorem hearAnnounce_fcu (s : State) (st : Station) (t : AnnounceType) (w : Window) :
    (hearAnnounce s st t w).fcu = s.fcu := by
  unfold hearAnnounce; cases t <;> simp
@[simp] theorem hearAnnounce_lifecycle (s : State) (st : Station) (t : AnnounceType) (w : Window) :
    (hearAnnounce s st t w).lifecycle = s.lifecycle := by
  unfold hearAnnounce; cases t <;> simp
@[simp] theorem hearAnnounce_params (s : State) (st : Station) (t : AnnounceType) (w : Window) :
    (hearAnnounce s st t w).params = s.params := by
  unfold hearAnnounce; cases t <;> simp
@[simp] theorem hearAnnounce_time (s : State) (st : Station) (t : AnnounceType) (w : Window) :
    (hearAnnounce s st t w).time = s.time := by
  unfold hearAnnounce; cases t <;> simp
@[simp] theorem hearAnnounce_reply (s : State) (st : Station) (t : AnnounceType) (w : Window) :
    (hearAnnounce s st t w).reply = s.reply := by
  unfold hearAnnounce; cases t <;> simp
@[simp] theorem hearAnnounce_shiftedOut (s : State) (st : Station) (t : AnnounceType) (w : Window) :
    (hearAnnounce s st t w).shiftedOut = s.shiftedOut := by
  unfold hearAnnounce; cases t <;> simp
@[simp] theorem hearAnnounce_pending (s : State) (st : Station) (t : AnnounceType) (w : Window) :
    (hearAnnounce s st t w).pending = s.pending := by
  unfold hearAnnounce; cases t <;> simp
@[simp] theorem hearAnnounce_own (s : State) (st : Station) (t : AnnounceType) (w : Window) :
    (hearAnnounce s st t w).own = s.own := State.own_congr (by simp)

@[simp] theorem hearAnnounce_cfg (s : State) (st : Station) (t : AnnounceType) (w : Window) (j : EntryIx) :
    (hearAnnounce s st t w).cfg j = s.cfg j := by
  unfold hearAnnounce; cases t <;> simp

/-! ### Entry to HALTED (R165) -/

@[simp] theorem halt_announce (s : State)  :
    (halt s).announce = s.announce := by
  unfold halt; dsimp only; simp only [setFlag_announce, State.mapRoster_announce]; rw [postAll_keeps (·.announce) _ (fun s i => post_announce s i _)]; simp
@[simp] theorem halt_fcu (s : State)  :
    (halt s).fcu = s.fcu := by
  unfold halt; dsimp only; simp only [setFlag_fcu, State.mapRoster_fcu]; rw [postAll_keeps (·.fcu) _ (fun s i => post_fcu s i _)]; simp
@[simp] theorem halt_params (s : State)  :
    (halt s).params = s.params := by
  unfold halt; dsimp only; simp only [setFlag_params, State.mapRoster_params]; rw [postAll_keeps (·.params) _ (fun s i => post_params s i _)]; simp
@[simp] theorem halt_time (s : State)  :
    (halt s).time = s.time := by
  unfold halt; dsimp only; simp only [setFlag_time, State.mapRoster_time]; rw [postAll_keeps (·.time) _ (fun s i => post_time s i _)]; simp
@[simp] theorem halt_reply (s : State)  :
    (halt s).reply = s.reply := by
  unfold halt; dsimp only; simp only [setFlag_reply, State.mapRoster_reply]; rw [postAll_keeps (·.reply) _ (fun s i => post_reply s i _)]; simp
@[simp] theorem halt_shiftedOut (s : State)  :
    (halt s).shiftedOut = s.shiftedOut := by
  unfold halt; dsimp only; simp only [setFlag_shiftedOut, State.mapRoster_shiftedOut]; rw [postAll_keeps (·.shiftedOut) _ (fun s i => post_shiftedOut s i _)]; simp
@[simp] theorem halt_draws (s : State)  :
    (halt s).draws = s.draws := by
  unfold halt; dsimp only; simp only [setFlag_draws, State.mapRoster_draws]; rw [postAll_keeps (·.draws) _ (fun s i => post_draws s i _)]; simp
@[simp] theorem halt_pending (s : State)  :
    (halt s).pending = s.pending := by
  unfold halt; dsimp only; simp only [setFlag_pending, State.mapRoster_pending]; rw [postAll_keeps (·.pending) _ (fun s i => post_pending s i _)]; simp

@[simp] theorem halt_cfg (s : State)  (j : EntryIx) :
    (halt s).cfg j = s.cfg j := by
  unfold halt; dsimp only
  simp only [State.cfg, setFlag_entries, State.mapRoster_entries]
  exact (postAll_keeps (·.cfg j) _ (fun s i => post_cfg s i _ j) _ _).trans (State.mapRt_cfg s _ j)

@[simp] theorem halt_lifecycle (s : State) : (halt s).lifecycle = .halted := rfl
@[simp] theorem halt_liu (s : State) : (halt s).liu = .off := rfl
@[simp] theorem halt_inFlight (s : State) : (halt s).inFlight = none := rfl
@[simp] theorem halt_verdict (s : State) : (halt s).verdict = none := rfl
@[simp] theorem halt_announceTimer (s : State) : (halt s).announceTimer = none := rfl

end Sys2Proof.Machine
end

