-- ==== Sys2Proof/Laws/Port.lean ====
section
/-! SUPPORT. The small facts that statements about commands come down to: entry operands, values, the lowest entry,
timers and serial order in plain arithmetic, sets of stations. -/

namespace Sys2Proof.Machine

/-! ### Entry operands (R180) -/

@[simp] theorem entryByte_toNat (i : EntryIx) : (entryByte i).toNat = i.val := by
  have := i.isLt
  simp only [entryByte, BitVec.toNat_ofNat]
  omega

/-- A command on a used entry runs on it. -/
theorem onEntry_used (s : State) (i : EntryIx) (rest : List Byte) (run : EntryIx → State)
    (h : (s.cfg i).role ≠ .unused) : onEntry s (entryByte i :: rest) run = run i := by
  simp [onEntry, entryOperand, h]

/-- A command on an unused entry is refused with BAD-ITEM. -/
theorem onEntry_unused (s : State) (i : EntryIx) (rest : List Byte) (run : EntryIx → State)
    (h : (s.cfg i).role = .unused) :
    onEntry s (entryByte i :: rest) run = refuse s (entryByte i :: rest) .badItem := by
  simp [onEntry, entryOperand, h]

/-- A command that names an entry above 127 is refused with BAD-ITEM. -/
theorem onEntry_above (s : State) (b : Byte) (rest : List Byte) (run : EntryIx → State) (h : 128 ≤ b.toNat) :
    onEntry s (b :: rest) run = refuse s (b :: rest) .badItem := by
  have : ¬ b.toNat < 128 := by omega
  simp [onEntry, entryOperand, this]

/-! ### Values (R10) -/

/-- A payload of at most 12 bytes takes the place of the first bytes of the storage. -/
theorem storeValue_toList (old : Vector Byte 12) (payload : List Byte) (h : payload.length ≤ 12) :
    (storeValue old payload).toList = payload ++ old.toList.drop payload.length := by
  apply List.ext_getElem
  · simp; omega
  · intro n h1 h2
    simp only [storeValue, Vector.getElem_toList, Vector.getElem_ofFn, Fin.getElem_fin]
    rcases Nat.lt_or_ge n payload.length with hn | hn
    · rw [List.getElem_append_left hn, List.getElem?_eq_getElem hn]
      rfl
    · rw [List.getElem_append_right hn, List.getElem?_eq_none hn, List.getElem_drop]
      simp only [Option.getD_none, Vector.getElem_toList]
      congr 1
      omega

/-! ### The lowest entry with a property -/

theorem lowestEntry_eq_none {p : EntryIx → Bool} : lowestEntry p = none ↔ ∀ i, p i = false := by
  simp [lowestEntry, List.find?_eq_none]

theorem lowestEntry_eq_some {p : EntryIx → Bool} {i : EntryIx} (h : p i = true) (low : ∀ j, j < i → p j = false) :
    lowestEntry p = some i := by
  rw [lowestEntry, List.find?_eq_some_iff_getElem]
  refine ⟨h, i.val, by simp, by simp, fun k hk => ?_⟩
  simpa using low ⟨k, by omega⟩ (by exact hk)

/-- The used entry that holds a key is the one found for it (R1). -/
theorem findEntry_of_heldBy {s : State} {key : Key} {i : EntryIx} (h : heldBy s key i) : findEntry s key = some i := by
  apply lowestEntry_eq_some
  · simpa using (h i).2 rfl
  · intro j hj
    have : ¬ ((s.cfg j).role ≠ .unused ∧ (s.cfg j).key = key) := fun hc => absurd ((h j).1 hc) (Fin.ne_of_lt hj)
    simpa [Bool.and_eq_false_iff, decide_eq_false_iff_not, Classical.not_and_iff_not_or_not] using this

/-! ### Timers and serial order (R2, R13, R156) -/

theorem timerDue_some (now : Time) (r : Running) :
    timerDue now (some r) = true ↔ r.duration ≤ (now.toNat + 4294967296 - r.started.toNat) % 4294967296 := by
  have h1 := now.isLt
  have h2 := r.started.isLt
  simp only [timerDue, decide_eq_true_eq, BitVec.toNat_sub]
  have : (2 ^ 32 - r.started.toNat + now.toNat) = now.toNat + 4294967296 - r.started.toNat := by omega
  rw [this]

@[simp] theorem timerDue_none (now : Time) : timerDue now none = false := rfl

theorem newer_iff (a b : Byte) : newer a b = true ↔ serialNewer a b := by
  have h1 := a.isLt
  have h2 := b.isLt
  simp only [newer, serialNewer, decide_eq_true_eq, BitVec.toNat_sub]
  have : 2 ^ 8 - a.toNat + b.toNat = b.toNat + 256 - a.toNat := by omega
  rw [this]

/-! ### Sets of stations -/

@[simp] theorem onlyStation_bit (st x : Station) : (onlyStation st).getLsbD x.val = decide (st = x) := by
  have h1 := st.isLt
  have h2 := x.isLt
  simp only [onlyStation, BitVec.getLsbD_twoPow]
  by_cases h : st = x
  · subst h; simp
  · have : st.val ≠ x.val := fun h' => h (Fin.ext h')
    simp [h, this]

theorem someTaken_iff (w : Window) : someTaken w = true ↔ ∃ st : Station, w[st] = .taken := by
  simp [someTaken]

/-! ### Roles -/

theorem isMirror_iff (r : Role) : r.isMirror = true ↔ r = .subscriber ∨ r = .claiming := by
  cases r <;> simp [Role.isMirror]

theorem takesRequests_iff (l : Lifecycle) :
    takesRequests l = true ↔ l = .joining ∨ l = .online ∨ l = .leaving := by
  cases l <;> simp [takesRequests]

end Sys2Proof.Machine
end

