-- ==== Sys2Proof/Tests/Slice0.lean ====
section
/-! SUPPORT. The model's own tests. First the checks of the terms and the manual's own examples; then, for every
statement with hypotheses, a witness: concrete states and operands that meet the hypotheses of each clause (a hypothesis
that only names a value, `x = …` with `x` bound by the statement, is met by that value and not repeated). -/

namespace Sys2Proof.Tests

open Sys2Proof Sys2Proof.Machine

-- One theorem at a time: most are kernel evaluations, and many at once take a thread each.
set_option Elab.async false

/-! ### Well-formed terms: one ill-formed term for each check -/

theorem test_wf_known_code_is_not_unknown : Instr.wellFormed (.unknownCommandCode 0x10 []) = false := by decide
theorem test_wf_verdict_point_needs_a_level : Instr.wellFormed (.frameVerdictPoint []) = false := by decide
theorem test_wf_verdict_point_too_long :
    Instr.wellFormed (.frameVerdictPoint (List.replicate 255 true)) = false := by decide +kernel
theorem test_wf_completion_too_long :
    Instr.wellFormed (.receivedFrameCompletion (List.replicate 72 true)) = false := by decide +kernel
theorem test_wf_completion_needs_a_level : Instr.wellFormed (.receivedFrameCompletion []) = false := by decide
theorem test_wf_outcome_too_long :
    Instr.wellFormed (.ownFrameOutcome (List.replicate 255 true)) = false := by decide +kernel
theorem test_wf_fault_too_long :
    Instr.wellFormed (.faultFound (List.replicate 255 true)) = false := by decide +kernel
theorem test_wf_silent_end_too_long :
    Instr.wellFormed (.silentFrameEnd (List.replicate 255 true)) = false := by decide +kernel
theorem test_wf_sighting_too_long :
    Instr.wellFormed (.duplicateSighting (List.replicate 255 true)) = false := by decide +kernel
theorem test_wf_recovery_needs_a_level : Instr.wellFormed (.lineRecovered []) = false := by decide
theorem test_wf_accepts : Instr.wellFormed (.unknownCommandCode 0x2B []) = true ∧
    Instr.wellFormed (.frameVerdictPoint (List.replicate 254 true)) = true ∧ Instr.wellFormed (.faultFound []) = true ∧
    Instr.wellFormed (.silentFrameEnd []) = true := by decide +kernel

/-! ### Codes of the command code table (section 12.3) -/

theorem test_code_nop : transactionCommand [0x00, 0xFF] = .nop [0xFF] := by decide
theorem test_code_write : transactionCommand [0x10, 0x02, 0x01, 0x2C] = .write [0x02, 0x01, 0x2C] := by decide
theorem test_code_set_item : transactionCommand [0x21] = .setItem [] := by decide
theorem test_code_restart : transactionCommand [0x2A] = .restart [] := by decide
theorem test_code_unknown : transactionCommand [0x25, 0x01] = .unknownCommandCode 0x25 [0x01] := by decide

/-- R178: 10H and 02H, most significant bit first, with seven bits left over. -/
theorem test_code_from_bits :
    clockedCommand ([0, 0, 0, 1, 0, 0, 0, 0, 0, 0, 0, 0, 0, 0, 1, 0, 1, 1, 1, 1, 1, 1, 1].map fun b => decide (b = 1))
      = .write [0x02] := by decide

/-- R178: fewer than 8 bits are no whole byte. -/
theorem test_no_whole_byte : clockedCommand (List.replicate 7 true) = .emptyTransaction := by decide

/-- The table of commands gives bits to no row. -/
theorem test_table_word_spells_nothing : decodeTableWord 8 0x10 = none := by decide

/-! ### A state to test with -/

/-- A property of the next state. -/
def runs (o : Host.Outcome State Fault Refusal) (p : State → Bool) : Bool :=
  match o with
  | .next t => p t
  | .fault _ | .refused _ => false

/-- A movable publisher with required receivers 1 and 2. -/
def ownedCfg (key : Key) : ItemConfig where
  role := .publisher
  key := key
  cls := .normal
  length := 2
  movable := true
  onWrite := true
  periodic := true
  period := 50
  inhibit := 5
  required := 0x00000006
  attemptLimit := 3
  initial := [0x00, 0x00]
  freshness := 40
  autoPull := true

/-- A movable mirror with a freshness limit and auto-pull. -/
def mirroredCfg (key : Key) : ItemConfig :=
  { ownedCfg key with
    role := .subscriber, onWrite := true, periodic := false, period := 0, inhibit := 0, required := 0, attemptLimit := 0 }

/-- A plain publisher, not movable, ON-WRITE alone. -/
def fixedCfg (key : Key) : ItemConfig :=
  { ItemConfig.unused with
    role := .publisher, key := key, cls := .normal, length := 2, onWrite := true, initial := [0x00, 0x00] }

/-- A FRESH mirror of station 2 with its freshness timer due at time 1000. -/
def freshRt : Runtime :=
  { Runtime.unused with
    role := .subscriber, mirror := some .fresh, source := some ⟨2, 960⟩, freshTimer := some ⟨960, 40⟩, version := 5 }

/-- Station 3, ONLINE and GOOD at time 1000: 0 owned with an OPEN delivery, 1 FRESH with a SENT pull, 2 STALE, 3 EMPTY,
4 CLAIMING with its frame on the line, 5 YIELDING to station 2, 6 owned and not movable, 7 ORPHANED, 8 FRESH and held,
9 unused, 127 FRESH. -/
def net : State :=
  { State.reset with
    entries := Vector.ofFn fun i =>
      match i.val with
      | 0 => ⟨ownedCfg 100, { Runtime.unused with
          role := .publisher, version := 1, pending := { PendingSet.none with publish := some 0 }
          delivery := some ⟨.opened, 1, 0, 0, 1⟩, periodTimer := some ⟨950, 50⟩, inhibitTimer := some ⟨995, 5⟩ }⟩
      | 1 => ⟨mirroredCfg 101, freshRt⟩
      | 2 => ⟨mirroredCfg 102, { freshRt with mirror := some .stale, freshTimer := none }⟩
      | 3 => ⟨mirroredCfg 103, { Runtime.unused with role := .subscriber, mirror := some .empty }⟩
      | 4 => ⟨mirroredCfg 104, { freshRt with
          role := .claiming, freshTimer := none, claim := some ⟨.normal, true⟩, claimTimer := some ⟨950, 50⟩ }⟩
      | 5 => ⟨ownedCfg 105, { Runtime.unused with role := .yielding, yield := some ⟨2, 7⟩ }⟩
      | 6 => ⟨fixedCfg 106, { Runtime.unused with role := .publisher, generation := 1 }⟩
      | 7 => ⟨mirroredCfg 107, { freshRt with mirror := some .orphaned, freshTimer := none }⟩
      | 8 => ⟨mirroredCfg 108, { freshRt with held := true, holdTimer := some ⟨990, 10⟩ }⟩
      | 127 => ⟨mirroredCfg 127, freshRt⟩
      | _ => ⟨.unused, .unused⟩
    liu := { Liu.off with phase := .idle }
    pulls := [⟨1, .sent, 1, some ⟨980, 20⟩, false, false⟩]
    roster := (Vector.replicate 32 RosterRecord.cleared).set 3 ⟨.present, none⟩ |>.set 2 ⟨.present, some ⟨700, 300⟩⟩
    announceTimer := some ⟨900, 100⟩
    lifecycle := .online
    params := some ⟨3, .kbit100, 100, 300, 50, 20, 10⟩
    time := 1000 }

/-- `net` with the runtime part of one entry replaced. -/
def netWith (i : EntryIx) (r : Runtime) : State := net.modRt i fun _ => r

/-- A PULL for key 300, class NORMAL, of station 5 (section 2.4's example). -/
def pull300 : Frame := ⟨.normal, 300, 5, .pull⟩

/-- A PUBLISH for entry 1's key from its source, station 2, one version on. -/
def publish101 : Frame := ⟨.normal, 101, 2, .publish 0 6 [0xAA, 0xBB]⟩

/-- A window in which no station answered. -/
def silentWindow : Window := Vector.replicate 32 .absent

/-! ### The manual's examples -/

/-- Section 12.4, step 1: after full reset the port shifts out FFH. -/
theorem test_nop_after_reset :
    runs (exec (.nop [0x11]) State.reset) (fun t => t.shiftedOut = [0xFF, 0xFF] ∧ t.reply = none) = true := by
  decide +kernel

/-- Section 12.5, steps 1 and 2: WRITE of 01H 2CH at version 0 replies OK with version 1. -/
theorem test_write_advances :
    runs (exec (.write [0x06, 0x01, 0x2C]) net) (fun t => t.reply = some [0x00, 0x01] ∧
      valueOf (t.cfg 6) (t.rt 6) = [0x01, 0x2C] ∧ (t.rt 6).pending.publish = some 0) = true := by decide +kernel

/-- Section 7.7, the YIELD frame at station 20: a REFRESH whose effective source is 9; the source moves to 9, UPDATED is
posted. -/
theorem test_yield_refresh_moves_source :
    let s := netWith 1 { freshRt with source := some ⟨4, 960⟩, version := 1 }
    judgeEntry 20 (s.cfg 1) (s.rt 1) ⟨.normal, 300, 4, .yield 9 0 1 [0x01, 0x2C]⟩ = ⟨.refresh, .taken, 0, some 9⟩ ∧
    ((applyRefresh s 1 9 (.yield 9 0 1 [0x01, 0x2C])).rt 1).source = some ⟨9, 1000⟩ ∧
    (applyRefresh s 1 9 (.yield 9 0 1 [0x01, 0x2C])).notices = [⟨1, Reason.updated.alone⟩] := by decide +kernel

/-- R2: versions wrap, and 0 is newer than 255. -/
theorem test_write_wraps :
    runs (exec (.write [0x06, 0x01, 0x2C]) (netWith 6 { (net.rt 6) with version := 0xFF }))
      (fun t => t.reply = some [0x00, 0x00]) = true := by decide +kernel

/-- Section 2.4: the levels of station 5's PULL for key 300, bit by bit; the check value F8A6H was computed by hand from
R23. -/
theorem test_pull_levels : pull300.levels = ([0, 1, 0, 0, 0, 0, 1, 0, 0, 1, 1, 0, 1, 1, 0, 0, 0, 1, 0, 1,
    0, 0, 1, 0, 1, 1, 1, 0, 1, 1, 1, 0, 0, 0, 1, 0, 1, 1, 0, 0, 1, 1, 0] : List Nat).map (fun b => decide (b = 1)) := by
  decide +kernel

/-- Section 2.4: station 14's PUBLISH for key 310 is OUTBID at key bit 8, place 11 of the frame with the start bit and
one beat. -/
theorem test_contention_outbid :
    outcomeOf ⟨.normal, 310, 14, .publish 0 0 []⟩ (pull300.levels.take 12) = some (.outbid, none) := by decide +kernel

/-- Section 2.4: station 9's PULL is COLLIDED at source bit 2. -/
theorem test_contention_collided :
    outcomeOf { pull300 with source := 9 } (pull300.levels.take 22) = some (.collided, none) := by decide +kernel

/-- Section 2.8: a PUBLISH of 2 bytes takes 155 bit times. -/
theorem test_frame_length :
    (Frame.levels ⟨.normal, 300, 4, .publish 0 0 [1, 2]⟩ ++ windowLevels silentWindow ++ endField).length = 155 := by
  decide +kernel

/-- Section 9.6: the eighth UNHEARD in a row makes score 48 and CAUTIOUS, with STANDING set. -/
theorem test_unheard_makes_cautious :
    (fcuOutcome { net with fcu := ⟨42, .good, 0, none⟩ } .unheard).fcu = ⟨48, .cautious, 0, some .noReceipt⟩ ∧
    (fcuOutcome { net with fcu := ⟨42, .good, 0, none⟩ } .unheard).flags = 0x02 := by decide +kernel

/-- Section 9.6: 114 and a DESTROYED frame make 120 and MUTED; the 48th clean frame makes 0 and GOOD. -/
theorem test_muted_and_back :
    (fcuOutcome { net with fcu := ⟨114, .cautious, 0, some .bit⟩ } .destroyed).fcu = ⟨120, .muted, 0, some .bit⟩ ∧
    (scoreCompletion { net with fcu := ⟨120, .muted, 47, some .abortSeen⟩ }).fcu = ⟨0, .good, 0, some .abortSeen⟩ ∧
    (scoreCompletion { net with fcu := ⟨120, .muted, 47, some .abortSeen⟩ }).flags = 0x06 := by decide +kernel

/-- Section 12.2 and R140: the bytes of READ-ROSTER with stations 2 and 3 PRESENT. -/
theorem test_roster_bytes :
    runs (exec (.readRoster []) net) (fun t => t.reply = some [0x00, 0x03, 0, 0, 0, 0, 0, 0, 0, 0x50]) = true := by
  decide +kernel

/-! ### Witnesses: the queue and the local port -/

theorem witness_stepRunsTheFrontCommand :
    ({ net with pending := [.stationTimeTick, .startBitCapture] } : State).pending
      = Instr.stationTimeTick :: [.startBitCapture] ∧ net.pending = [] := by decide +kernel

theorem witness_replyBufferHoldsTheLastReply :
    operandsOf (.status []) = some [] ∧ (∃ t, exec (.status []) net = .next t) ∧
    (∃ t, exec (.restart [0x01]) net = .next t) ∧
    operandsOf .stationTimeTick = none ∧ Instr.stationTimeTick ≠ .fullReset ∧
    (∃ t, exec .stationTimeTick net = .next t) ∧
    exec .fullReset net = .next { State.reset with draws := 0, pending := [] } :=
  ⟨rfl, ⟨_, rfl⟩, ⟨_, rfl⟩, rfl, by decide, ⟨_, rfl⟩, rfl⟩

/-- Codes around the table's, entry indices 128 and 255, an unused entry, one byte too few at each command. -/
theorem witness_transportChecksRefuse :
    (0x06 : Byte) ∉ commandCodes ∧ (0x2B : Byte) ∉ commandCodes ∧
    128 ≤ (0x80 : Byte).toNat ∧ 128 ≤ (0xFF : Byte).toNat ∧ (net.cfg 9).role = .unused ∧
    (net.cfg 0).role ≠ .unused ∧ ([0x01] : List Byte).length < (net.cfg 0).length ∧
    (List.replicate 10 (0 : Byte)).length < 11 ∧
    (let rest : List Byte := [1, 0, 100, 2, 2, 2, 0, 0, 0, 0, 0, 0, 0, 0, 0, 0, 0, 7]
     rest.length < 17 + (if (byteAt (entryByte 9 :: rest) 6).toNat ≤ 12
      then (byteAt (entryByte 9 :: rest) 6).toNat else 0)) ∧
    (let rest : List Byte := [1, 0, 100, 2, 13, 2, 0, 0, 0, 0, 0, 0, 0, 0, 0, 0]
     rest.length < 17 + (if (byteAt (entryByte 9 :: rest) 6).toNat ≤ 12
      then (byteAt (entryByte 9 :: rest) 6).toNat else 0)) := by decide +kernel

/-- SET-STATION operands: station 31, 100 kbit/s, 100 ms, 300 ms, 50 ms, 20 ms, 10 ms. -/
def stationOps : List Byte := [31, 0, 0, 100, 1, 44, 0, 50, 0, 20, 10]

/-- SET-ITEM operands: entry 9, PUBLISHER, key 300, NORMAL, length 2, ON-WRITE, initial AAH BBH. -/
def itemOps : List Byte := [9, 1, 1, 44, 2, 2, 0x02, 0, 0, 0, 0, 0, 0, 0, 0, 0, 0, 0, 0xAA, 0xBB]

theorem witness_extraOperandBytesAreIgnored :
    (∃ t, exec (.start []) net = .next t) ∧ (∃ t, exec (.claim [0x7F]) net = .next t) ∧
    ([0x01, 0x2C] : List Byte).length = (net.cfg 6).length ∧
    (∃ t, exec (.write (entryByte 6 :: [0x01, 0x2C])) net = .next t) ∧
    stationOps.length = 11 ∧ (∃ t, exec (.setStation stationOps) State.reset = .next t) ∧
    itemOps.length = itemBytesNeeded itemOps ∧ ∃ t, exec (.setItem itemOps) State.reset = .next t :=
  ⟨⟨_, rfl⟩, ⟨_, rfl⟩, by decide +kernel, ⟨_, rfl⟩, rfl, ⟨_, rfl⟩, by decide +kernel, ⟨_, rfl⟩⟩

theorem witness_leftoverBits : (List.replicate 7 true).length < 8 ∧ ([] : List Bool).length < 8 := by decide

/-- Both sides of the attention line's rule: nothing held, a record alone, a station notice alone. -/
theorem witness_attention :
    ((net.attention = false ∧ net.notices = [] ∧ net.flags = 0) ∧
    ({ net with notices := [⟨127, 0x0001⟩] } : State).attention = true ∧
    ({ net with flags := 0x20 } : State).attention = true) := by decide +kernel

theorem witness_readingAnEntryReportsIt : (net.cfg 0).role ≠ .unused ∧ (net.cfg 127).role ≠ .unused := by decide +kernel

/-! ### Witnesses: notices -/

/-- A full queue of the records of entries 0 to 31, and deferred reasons at entry 127. -/
def crowded : State :=
  { (netWith 127 { freshRt with deferred := some 0x0004 }) with
    notices := (List.range 32).map fun k => ⟨Fin.ofNat 128 k, 0x0001⟩ }

theorem witness_nextNoticeHandsOverTheOldest :
    net.notices = [] ∧ crowded.notices = ⟨0, 0x0001⟩ :: ((List.range 31).map fun k => ⟨Fin.ofNat 128 (k + 1), 0x0001⟩) ∧
    (crowded.rt 127).deferred = some 0x0004 ∧ (∀ j : EntryIx, j < 127 → (crowded.rt j).deferred = none) ∧
    ∀ j, (net.rt j).deferred = none := by decide +kernel

theorem witness_postingFollowsTheFourCases :
    (0x0001 : ReasonSet) ≠ 0 ∧ (∃ n ∈ crowded.notices, n.entry = 31) ∧
    (∀ n ∈ crowded.notices, n.entry ≠ 127) ∧ (crowded.rt 127).deferred = some 0x0004 ∧
    (∀ n ∈ crowded.notices, n.entry ≠ 32) ∧ (crowded.rt 32).deferred = none ∧ 32 ≤ crowded.notices.length ∧
    (∀ n ∈ net.notices, n.entry ≠ 0) ∧ (net.rt 0).deferred = none ∧ net.notices.length < 32 ∧
    (let s := { crowded with notices := crowded.notices.take 31 }
     (∀ n ∈ s.notices, n.entry ≠ 32) ∧ (s.rt 32).deferred = none ∧ s.notices.length < 32) := by decide +kernel

theorem witness_noticeLaw : noticeLaw crowded := by unfold noticeLaw; decide +kernel

/-! ### Witnesses: commands on one entry -/

theorem witness_writeStoresAndAdvances :
    (net.cfg 0).role ≠ .unused ∧ (net.rt 0).role = .publisher ∧ net.lifecycle = .online ∧ (net.cfg 0).length ≤ 12 ∧
    ([0x01, 0x2C] : List Byte).length = (net.cfg 0).length := by decide +kernel

theorem witness_writeRefusalsChangeNothing :
    128 ≤ (0x80 : Byte).toNat ∧ (net.cfg 9).role = .unused ∧
    ((net.cfg 5).role ≠ .unused ∧ ([0x01] : List Byte).length < (net.cfg 5).length) ∧
    ((net.cfg 5).length ≤ ([0x01, 0x2C] : List Byte).length ∧ (net.rt 5).role = .yielding) ∧
    ((net.cfg 1).role ≠ .unused ∧ (net.rt 1).role = .subscriber) ∧
    ((net.cfg 4).role ≠ .unused ∧ (net.rt 4).role = .claiming) ∧
    (let s := { net with lifecycle := .halted }
     (s.cfg 0).role ≠ .unused ∧ (s.rt 0).role = .publisher ∧ s.lifecycle = .halted) := by decide +kernel

theorem witness_writeIgnoresFurtherBytes :
    (net.cfg 0).length ≤ ([1, 2, 3] : List Byte).length ∧
    ∃ t, exec (.write (entryByte 0 :: ([1, 2, 3] : List Byte).take (net.cfg 0).length)) net = .next t :=
  ⟨by decide +kernel, ⟨_, rfl⟩⟩

theorem witness_holdFreezesAMirror :
    ((net.cfg 1).role ≠ .unused ∧ (net.rt 1).role = .subscriber ∧ net.lifecycle ≠ .halted ∧
      net.params = some ⟨3, .kbit100, 100, 300, 50, 20, 10⟩) ∧
    ((net.rt 4).role = .claiming ∧ ({ net with params := none } : State).params = none) ∧
    ((net.rt 0).role ≠ .subscriber ∧ (net.rt 0).role ≠ .claiming) ∧
    ({ net with lifecycle := .halted } : State).lifecycle = .halted := by decide +kernel

theorem witness_releaseEndsTheHold :
    ((net.cfg 8).role ≠ .unused ∧ (net.rt 8).role = .subscriber ∧ net.lifecycle ≠ .halted ∧ (net.rt 8).held = true) ∧
    ((net.rt 1).role = .subscriber ∧ (net.rt 1).held = false) ∧
    ((net.rt 5).role ≠ .subscriber ∧ (net.rt 5).role ≠ .claiming) ∧
    (⟨some 8, .defer, .busy, 0, none, publish101, true⟩ : VerdictRecord).verdict = .defer := by decide +kernel

/-- `net` with the Pull Table full: entries 1 to 3, 7 and others. -/
def pullsFull : State :=
  { net with pulls := [1, 2, 3, 7, 8, 20, 21, 22].map fun i => ⟨i, .waiting, 0, none, false, false⟩ }

theorem witness_pullCommandAddsOrMerges :
    ((net.cfg 1).role ≠ .unused ∧ (net.rt 1).role = .subscriber ∧ net.lifecycle = .online ∧
      ∃ p ∈ net.pulls, p.entry = 1) ∧
    ((net.rt 127).role = .subscriber ∧ (∀ p ∈ net.pulls, p.entry ≠ 127) ∧ net.pulls.length < 8) ∧
    ((pullsFull.rt 127).role = .subscriber ∧ (∀ p ∈ pullsFull.pulls, p.entry ≠ 127) ∧ 8 ≤ pullsFull.pulls.length) ∧
    (net.rt 4).role ≠ .subscriber := by decide +kernel

/-- The table full, entry 127 waiting for a place with its mark set. -/
def pullsWanted : State := pullsFull.modRt 127 fun r => { r with pullWanted := true }

theorem witness_pullRemovalServesTheLowestMark :
    (∀ p ∈ net.pulls, p.entry ≠ 2) ∧ (∃ p ∈ net.pulls, p.entry = 1) ∧ (∀ j, (net.rt j).pullWanted = false) ∧
    (∃ p ∈ pullsWanted.pulls, p.entry = 1) ∧ (pullsWanted.rt 127).pullWanted = true ∧
    ∀ k : EntryIx, k < 127 → (pullsWanted.rt k).pullWanted = false := by decide +kernel

theorem witness_claimCommandStartsAClaim :
    ((net.cfg 1).role ≠ .unused ∧ (net.cfg 1).movable = true ∧ (net.rt 1).role = .subscriber ∧
      (net.rt 1).held = false ∧ net.lifecycle = .online ∧ net.params = some ⟨3, .kbit100, 100, 300, 50, 20, 10⟩) ∧
    ((net.cfg 6).role ≠ .unused ∧ (net.cfg 6).movable = false) ∧ (net.rt 4).role ≠ .subscriber ∧
    (net.rt 8).held = true ∧ ({ net with lifecycle := .configuring } : State).lifecycle = .configuring := by
  decide +kernel

/-! ### Witnesses: configuration and lifecycle -/

/-- Each operand at both ends of its range and just past them; CONFIGURING and another lifecycle. -/
theorem witness_setStationReplacesTheParameters :
    11 ≤ stationOps.length ∧ net.lifecycle ≠ .configuring ∧ State.reset.lifecycle = .configuring ∧
    ¬ stationOutOfRange stationOps ∧
    ¬ stationOutOfRange [31, 3, 0x03, 0xE8, 0x27, 0x10, 0x03, 0xE8, 0x01, 0xF4, 250] ∧
    ¬ stationOutOfRange [0, 0, 0, 10, 0, 30, 0, 5, 0, 2, 1] ∧
    stationOutOfRange [32, 0, 0, 10, 0, 30, 0, 5, 0, 2, 1] ∧ stationOutOfRange [0, 4, 0, 10, 0, 30, 0, 5, 0, 2, 1] ∧
    stationOutOfRange [0, 0, 0, 9, 0, 30, 0, 5, 0, 2, 1] ∧ stationOutOfRange [0, 0, 0, 10, 0, 29, 0, 5, 0, 2, 1] ∧
    stationOutOfRange [0, 0, 0, 10, 0, 30, 0, 4, 0, 2, 1] ∧ stationOutOfRange [0, 0, 0, 10, 0, 30, 0, 5, 0, 1, 1] ∧
    stationOutOfRange [0, 0, 0, 10, 0, 30, 0, 5, 0, 2, 0] ∧
    stationOutOfRange [0, 0, 0x03, 0xE9, 0, 30, 0, 5, 0, 2, 251] := by
  unfold stationOutOfRange; and_intros <;> decide +kernel

/-- `State.reset` with a used entry that holds key 300. -/
def configured : State := State.reset.setEntry 4 ⟨fixedCfg 300, resetRuntime (fixedCfg 300)⟩

theorem witness_setItemChecksAndStores :
    itemOps = entryByte 9 :: itemOps.tail ∧ itemOps.length ≥ itemBytesNeeded itemOps ∧
    net.lifecycle ≠ .configuring ∧ State.reset.lifecycle = .configuring ∧
    ¬ itemOutOfRange itemOps ∧ (byteAt itemOps 2).toNat ≠ 0 ∧
    (∃ j : EntryIx, j ≠ 9 ∧ (configured.cfg j).role ≠ .unused ∧ (configured.cfg j).key.toNat = word16At itemOps 3) ∧
    (∀ j : EntryIx, j ≠ 9 → (State.reset.cfg j).role ≠ .unused →
      (State.reset.cfg j).key.toNat ≠ word16At itemOps 3) ∧
    itemOutOfRange (itemOps.set 1 3) ∧ itemOutOfRange ((itemOps.set 2 0).set 3 63) ∧ itemOutOfRange (itemOps.set 4 0) ∧
    itemOutOfRange (itemOps.set 5 13) ∧ itemOutOfRange (itemOps.set 6 0x04) ∧
    itemOutOfRange ((itemOps.set 9 0x03).set 10 0xE9) ∧ itemOutOfRange (itemOps.set 14 0x01) ∧
    ¬ itemOutOfRange (itemOps.set 1 0) ∧ (byteAt (itemOps.set 1 0) 2).toNat = 0 := by
  unfold itemOutOfRange; and_intros <;> decide +kernel

/-- A queue with a record of entry 31 and one without, entries with deferred reasons and without. -/
theorem witness_setItemRefillsTheQueue :
    (∃ n ∈ crowded.notices, n.entry = 31) ∧ (crowded.rt 127).deferred = some 0x0004 ∧
    (∀ k : EntryIx, k < 127 → (crowded.rt k).deferred = none) ∧ (∀ n ∈ crowded.notices, n.entry ≠ 32) ∧
    (let s := { net with notices := [⟨31, 0x0001⟩] }
     (∃ n ∈ s.notices, n.entry = 31) ∧ ∀ j, (s.rt j).deferred = none) := by decide +kernel

theorem witness_setItemReadsBackItsReply :
    (ownedCfg 300).stored ∧ (fixedCfg 64).stored ∧ State.reset.lifecycle = .configuring ∧
    ∀ j : EntryIx, j ≠ 9 → (State.reset.cfg j).role ≠ .unused → (State.reset.cfg j).key ≠ (ownedCfg 300).key := by
  simp only [ItemConfig.stored]; and_intros <;> decide +kernel

/-- A configured station with its parameters set: number 2, announce interval `a`, roster window `w`. -/
def ready (a w : Nat) : State := { configured with params := some ⟨2, .kbit100, a, w, 50, 20, 10⟩ }

theorem witness_startChecksInOrder :
    net.lifecycle ≠ .configuring ∧ configured.lifecycle = .configuring ∧ configured.params = none ∧
    (299 < 3 * 100 ∧ (ready 100 299).lifecycle = .configuring) ∧ 3 * 100 ≤ 300 ∧
    (let s := (ready 100 300).setEntry 127 ⟨{ fixedCfg 301 with onWrite := false }, Runtime.unused⟩
     ((s.cfg 127).role = .publisher ∧ (s.cfg 127).onWrite = false ∧ (s.cfg 127).periodic = false) ∧
     ∀ j : EntryIx, j < 127 → ¬ (((s.cfg j).role = .publisher ∨ (s.cfg j).movable = true) ∧
       (s.cfg j).onWrite = false ∧ (s.cfg j).periodic = false) ∧ (s.cfg j).required.getLsbD 2 = false) ∧
    (let s := (ready 100 300).setEntry 5 ⟨{ fixedCfg 301 with required := 0x4, attemptLimit := 1 }, Runtime.unused⟩
     (s.cfg 5).required.getLsbD 2 = true ∧ (s.cfg 5).onWrite = true ∧
     ∀ j : EntryIx, j < 5 → ¬ (((s.cfg j).role = .publisher ∨ (s.cfg j).movable = true) ∧
       (s.cfg j).onWrite = false ∧ (s.cfg j).periodic = false) ∧ (s.cfg j).required.getLsbD 2 = false) := by
  decide +kernel

theorem witness_startSetsEveryEntryToReset :
    (ready 100 300).lifecycle = .configuring ∧ 3 * 100 ≤ 300 ∧
    (∀ i, (((ready 100 300).cfg i).role = .publisher ∨ ((ready 100 300).cfg i).movable = true) →
      ((ready 100 300).cfg i).onWrite = true ∨ ((ready 100 300).cfg i).periodic = true) ∧
    ∀ i, ((ready 100 300).cfg i).required.getLsbD 2 = false := by decide +kernel

/-- R19: a PUBLISHER's initial value of 0 and of 12 bytes; a SUBSCRIBER starts EMPTY at zero. -/
theorem witness_resetValuesByRole :
    ({ fixedCfg 301 with initial := [] }.initial.length ≤ 12 ∧
      { fixedCfg 301 with initial := List.replicate 12 0xAA }.initial.length ≤ 12) ∧
    (resetRuntime { fixedCfg 301 with initial := List.replicate 12 0xAA }).storage.toList = List.replicate 12 0xAA ∧
    (mirroredCfg 301).role ≠ .publisher ∧ (resetRuntime (mirroredCfg 301)).mirror = some .empty := by decide +kernel

/-- `net` MUTED at score 120. -/
def muted : State := { net with fcu := ⟨120, .muted, 46, some .bit⟩, liu := { Liu.off with phase := .listening } }

theorem witness_stopAndRejoin :
    State.reset.lifecycle ≠ .online ∧ (net.lifecycle = .online ∧ net.fcu.standing ≠ .muted) ∧
    (muted.lifecycle = .online ∧ muted.fcu.standing = .muted) := by decide +kernel

/-! ### Witnesses: station time and timers -/

theorem witness_stationTimeAdvancesByTicksAlone :
    Instr.stop [] ≠ .stationTimeTick ∧ Instr.stop [] ≠ .fullReset ∧ ∃ t, exec (.stop []) net = .next t :=
  ⟨by decide, by decide, ⟨_, rfl⟩⟩

/-- Whether a timer of `net` is due at a station time. -/
def elapsed (now started : Time) : Nat := (now.toNat + 4294967296 - started.toNat) % 4294967296

/-- One millisecond before its end no timer of `net` is due; a stopped one is never due. -/
theorem witness_timersNotDueDoNotRunOut :
    elapsed 999 950 < 50 ∧ elapsed 999 995 < 5 ∧ elapsed 999 960 < 40 ∧ elapsed 999 990 < 10 ∧ elapsed 999 980 < 20 ∧
    elapsed 999 700 < 300 ∧ elapsed 999 900 < 100 ∧ (net.rt 9).periodTimer = none ∧
    elapsed 0 0xFFFFFFFF < 2 := by decide +kernel

/-- At station time 1000 each timer of `net` is just due. -/
theorem witness_periodInhibitAndHoldTimersRunOut :
    ((net.rt 0).periodTimer = some ⟨950, 50⟩ ∧ (net.rt 0).role = .publisher ∧ 50 ≤ elapsed net.time 950) ∧
    ((net.rt 0).inhibitTimer = some ⟨995, 5⟩ ∧ 5 ≤ elapsed net.time 995) ∧
    ((net.rt 8).holdTimer = some ⟨990, 10⟩ ∧ 10 ≤ elapsed net.time 990) := by decide +kernel

theorem witness_freshnessAndClaimTimersRunOut :
    ((net.rt 127).freshTimer = some ⟨960, 40⟩ ∧ (net.rt 127).role = .subscriber ∧ 40 ≤ elapsed net.time 960) ∧
    ((net.rt 4).claimTimer = some ⟨950, 50⟩ ∧ 50 ≤ elapsed net.time 950) := by decide +kernel

/-- An auto-pull request at another role, at a record held, at a free record, and at a full table. -/
theorem witness_autoPull :
    (net.rt 4).role ≠ .subscriber ∧ (∃ p ∈ net.pulls, p.entry = 1) ∧
    ((net.rt 127).role = .subscriber ∧ (∀ p ∈ net.pulls, p.entry ≠ 127) ∧ net.pulls.length < 8) ∧
    ((pullsFull.rt 127).role = .subscriber ∧ (∀ p ∈ pullsFull.pulls, p.entry ≠ 127) ∧ 8 ≤ pullsFull.pulls.length) := by
  decide +kernel

theorem witness_replyAndAnnounceTimersRunOut :
    ((⟨1, .sent, 1, some ⟨980, 20⟩, false, false⟩ : PullRecord) ∈ net.pulls ∧ (net.pulls.map (·.entry)).Nodup ∧
      20 ≤ elapsed net.time 980) ∧
    (let s := { net with pulls := [⟨1, .sent, 3, some ⟨980, 20⟩, false, false⟩] }
     (⟨1, .sent, 3, some ⟨980, 20⟩, false, false⟩ : PullRecord) ∈ s.pulls ∧ (s.pulls.map (·.entry)).Nodup) ∧
    (net.announceTimer = some ⟨900, 100⟩ ∧ net.params = some ⟨3, .kbit100, 100, 300, 50, 20, 10⟩ ∧
      100 ≤ elapsed net.time 900) := by decide +kernel

/-! ### Witnesses: the roster -/

theorem witness_orphaningReachesTheMirrorsOfAStation :
    ((net.rt 127).role = .subscriber ∧ (net.rt 127).mirror = some .fresh ∧
      (net.rt 127).source.map (·.station) = some 2) ∧
    ((net.rt 4).role = .claiming ∧ (net.rt 4).source.map (·.station) = some 2) ∧
    ((net.rt 2).mirror = some .stale) ∧ (net.rt 7).mirror = some .orphaned := by decide +kernel

/-- `net` with 7 records in the Pull Table, or all 8, entries 1 and 60 on among them. -/
def pulling (n : Nat) : State :=
  { net with pulls := net.pulls ++ ((List.finRange 128).drop 60 |>.take (n - 1)).map fun i =>
      ⟨i, .waiting, 0, none, false, false⟩ }

/-- R98: of the mirrors of station 2 with auto-pull, entry 1 holds a record and 2, 8 and 127 hold none; one record is
free, or none. -/
theorem witness_orphanedMirrorsAskForAPull :
    ((pulling 7).pulls.any (·.entry = 1) ∧
      ∀ i ∈ ([2, 8, 127] : List EntryIx), ((pulling 8).pulls.all fun p => decide (p.entry ≠ i)) = true ∧
        (net.rt i).role = .subscriber ∧ (net.cfg i).autoPull = true) ∧
    (pulling 7).pulls.length = 7 ∧ (pulling 8).pulls.length = 8 := by decide +kernel

theorem witness_silenceTimerLosesTheStation :
    (net.record 2).silence = some ⟨700, 300⟩ ∧ (2 : Station) ≠ net.own ∧ 300 ≤ elapsed net.time 700 ∧
    ((net.rt 5).role = .yielding ∧ (net.rt 5).yield.map (·.target) = some 2) := by decide +kernel

theorem witness_evidenceMakesPresent :
    net.params = some ⟨3, .kbit100, 100, 300, 50, 20, 10⟩ ∧ ((0 : Station) ≠ 3 ∧ (2 : Station) ≠ 3 ∧ (31 : Station) ≠ 3) ∧
    ((net.rt 5).role = .yielding ∧ (net.rt 5).yield.map (·.target) = some 2) ∧
    ((net.rt 127).role = .subscriber ∧ (net.rt 127).source.map (·.station) = some 2) ∧
    ((hearAnnounce net 2 .present silentWindow).rt 127).mirror = some .fresh := by decide +kernel

/-! ### Witnesses: medium access -/

/-- `net` between frames, `g` bit times into the gap, at a score. -/
def resting (g score : Nat) : State :=
  { net with liu := { Liu.off with phase := .resting, gap := g }, fcu := ⟨score, standingOf score, 0, none⟩ }

/-- A GOOD and a CAUTIOUS station, each one bit time short of its gap and at it; a JOINING station at 199 and 200. -/
theorem witness_gapsStartBitsAndJoinQuiet :
    ((resting 3 47).liu.phase = .resting ∧ (resting 3 47).fcu.standing = .good) ∧
    ((resting 15 48).fcu.standing = .cautious ∧ (resting 15 119).fcu.standing ≠ .muted) ∧
    (let s := { ready 100 300 with lifecycle := .joining, liu := { Liu.off with phase := .listening, joinQuiet := 199 } }
     s.lifecycle = .joining ∧ s.liu.phase = .listening ∧ s.fcu.standing ≠ .muted ∧
       s.params = some ⟨2, .kbit100, 100, 300, 50, 20, 10⟩ ∧ s.liu.joinQuiet + 0 < 200 ∧ 200 ≤ s.liu.joinQuiet + 1) := by
  decide +kernel

/-- `net` with entry 0 free to send. -/
def offering : State := netWith 0 { (net.rt 0) with inhibitTimer := none }

theorem witness_offerIsTheLowestEligible : isEligible offering (.publish 0) := by
  unfold isEligible isPending; decide +kernel

theorem witness_noOffer : offer (netWith 0 { (net.rt 0) with pending := .none }) = none := by decide +kernel

/-- A state for each kind of offer. -/
theorem witness_startBitCapturesTheOffer :
    (offering.liu.phase = .idle ∧ offering.inFlight = none ∧
      offering.params = some ⟨3, .kbit100, 100, 300, 50, 20, 10⟩ ∧ offer offering = some (.publish 0) ∧
      (offering.rt 0).pending.publish = some 0) ∧
    (let s := netWith 5 { (net.rt 5) with pending := { PendingSet.none with yield := true } }
     s.liu.phase = .idle ∧ offer s = some (.yield 5) ∧ (s.rt 5).yield = some ⟨2, 7⟩) ∧
    (let s := netWith 4 { (net.rt 4) with pending := { PendingSet.none with claim := true }, claim := some ⟨.normal, false⟩ }
     offer s = some (.claim 4) ∧ (s.rt 4).claim = some ⟨.normal, false⟩) ∧
    (let s := netWith 127 { (net.rt 127) with pending := { PendingSet.none with pull := true } }
     offer s = some (.pull 127)) ∧
    (let s := { net with announce := some ⟨.present, 15⟩ }
     offer s = some (.announce .present) ∧ s.announce = some ⟨.present, 15⟩) := by decide +kernel

/-! ### Witnesses: verdicts -/

/-- `net` receiving, with the start bit sampled. -/
def receiving : State := { net with liu := { Liu.off with phase := .receiving, sampled := [false] } }

theorem witness_allowedFrames :
    pull300.allowed ∧ publish101.allowed ∧ Frame.allowed ⟨.system, 31, 31, .announce .leave⟩ ∧
    Frame.allowed ⟨.urgent, 64, 0, .yield 1 0 0 (List.replicate 12 0)⟩ ∧ Frame.allowed ⟨.bulk, 4095, 3, .claim 255 true⟩ := by
  simp only [Frame.allowed, pull300, publish101]; decide

/-- R31: station 3 in WINDOW, about to answer TAKEN in slot 3, with six levels of the window sampled. -/
def answering (seen : Nat) (a : SlotSymbol) : State :=
  { receiving with
    verdict := some ⟨some 1, .accept, a, 0, some 2, publish101, true⟩
    liu := { receiving.liu with phase := .window, sampled := publish101.levels ++ List.replicate seen true } }

/-- R31, R39: the first and second bit of slot 3 by the answer, and recessive around the slot. -/
theorem test_slot_answers :
    ([.seen, .taken, .busy] : List SlotSymbol).map (fun a => ((answering 6 a).drives, (answering 7 a).drives))
      = [(false, true), (false, false), (true, false)] ∧
    (answering 5 .taken).drives = true ∧ (answering 8 .taken).drives = true := by decide +kernel

/-- R28, R35, R39: the start bit in IDLE with a frame offered, none with nothing offered, and a mark's bit. -/
theorem test_idle_and_mark_drive :
    offering.drives = false ∧ (netWith 0 { (net.rt 0) with pending := .none }).drives = true ∧
    ({ net with liu := { Liu.off with phase := .aborting, markBits := 1 } } : State).drives = false ∧
    ({ offering with lifecycle := .joining } : State).drives = true := by decide +kernel

theorem witness_eachPhaseDrivesItsColumn :
    (offering.liu.phase = .idle ∧ offering.inFlight = none ∧ answers offering = true) ∧
    (answering 6 .taken).params = some ⟨3, .kbit100, 100, 300, 50, 20, 10⟩ ∧
    ((answering 6 .taken).liu.phase = .window ∧ (answering 6 .taken).liu.contention ≠ .sending ∧
      (answering 6 .taken).liu.sampled = publish101.levels ++ List.replicate 6 true) := by decide +kernel

theorem witness_verdictIsFixedAtTheLastCheckBit :
    receiving.params = some ⟨3, .kbit100, 100, 300, 50, 20, 10⟩ ∧ receiving.liu.phase = .receiving ∧
    receiving.liu.fault = none ∧ receiving.liu.sampled ++ publish101.levels.tail = publish101.levels ∧
    publish101.source ≠ 3 ∧
    receiving.liu.sampled ++ (Frame.levels ⟨.bulk, 4095, 3, .claim 255 true⟩).tail
      = Frame.levels ⟨.bulk, 4095, 3, .claim 255 true⟩ := by decide +kernel

/-- Entry 1 holds key 101; frames at the ends of the serial order, by its source and by stations on both sides of it. -/
theorem witness_mirrorVerdictsFollowTheTable :
    heldBy net publish101.key 1 ∧ (net.rt 1).role = .subscriber ∧ (net.rt 1).held = false ∧
    publication publish101 2 0 6 [0xAA, 0xBB] ∧ ([0xAA, 0xBB] : List Byte).length = (net.cfg 1).length ∧
    (net.rt 1).mirror = some .fresh ∧ (net.rt 1).source = some ⟨2, 960⟩ ∧
    serialNewer (net.rt 1).generation 127 ∧ ¬ serialNewer (net.rt 1).generation 128 ∧
    (publish101.source = 2 ∧ serialNewer (net.rt 1).version 6 ∧ serialNewer (net.rt 1).version 132 ∧
      ¬ serialNewer (net.rt 1).version 133 ∧ (5 : Byte) = (net.rt 1).version) ∧
    ((1 : Station) < 2 ∧ (2 : Station) < 4) ∧ (net.rt 3).mirror = some .empty ∧ (net.rt 7).mirror = some .orphaned := by
  unfold heldBy publication serialNewer; decide +kernel

theorem witness_otherVerdictsFollowTheTables :
    (∀ j, (net.cfg j).role ≠ .unused → (net.cfg j).key ≠ pull300.key) ∧
    heldBy net 100 0 ∧ heldBy net 105 5 ∧ heldBy net 106 6 ∧ heldBy net 108 8 ∧
    ((net.rt 0).role = .publisher ∧ (net.cfg 0).movable = true) ∧ (net.rt 5).role = .yielding ∧
    ((net.rt 6).role = .publisher ∧ (net.cfg 6).movable = false) ∧ (net.rt 8).held = true ∧
    holdLaw (net.rt 0) ∧ holdLaw (net.rt 8) ∧ ([1, 2, 3] : List Byte).length ≠ (net.cfg 0).length ∧
    serialNewer (net.rt 6).generation 2 ∧ ¬ serialNewer (net.rt 6).generation 0 ∧ (2 : Station) < 3 ∧
    ((1 : Byte) = (net.rt 6).generation ∧ (3 : Station) < 4) := by
  unfold heldBy holdLaw serialNewer; decide +kernel

/-! ### Witnesses: completion -/

/-- A verdict on `f` for entry `i`. -/
def verdictFor (i : EntryIx) (v : Verdict) (f : Frame) : VerdictRecord := ⟨some i, v, .taken, 0x0001, some 2, f, true⟩

theorem witness_mirrorVerdictsAreApplied :
    (verdictFor 1 .accept publish101).effective = some 2 ∧ publication publish101 2 0 6 [0xAA, 0xBB] ∧
    ([0xAA, 0xBB] : List Byte).length ≤ 12 ∧ (net.rt 1).role = .subscriber ∧ (net.rt 0).role = .publisher ∧
    (net.rt 7).mirror = some .orphaned ∧ (net.rt 2).mirror = some .stale ∧
    ((net.rt 1).mirror = some .fresh ∧ (net.rt 1).source.map (·.station) = some 2) ∧
    (net.rt 4).source.map (·.station) ≠ some 1 := by
  unfold publication; decide +kernel

theorem witness_ownerVerdictsAreApplied :
    (verdictFor 0 .cede ⟨.normal, 100, 2, .claim 1 false⟩).driven = true ∧ (net.rt 0).role = .publisher ∧
    serialNewer (net.rt 0).generation 1 ∧ ¬ serialNewer (net.rt 0).generation 0 ∧ (net.rt 1).role = .subscriber ∧
    publication ⟨.normal, 101, 2, .yield 3 0 6 [1, 2]⟩ 3 0 6 [1, 2] ∧
    publication ⟨.normal, 100, 1, .publish 0 6 [1, 2]⟩ 1 0 6 [1, 2] := by
  unfold publication serialNewer; decide +kernel

/-- A station in its window, the verdict on `publish101` held. -/
def inWindow (l : Lifecycle) : State :=
  { net with
    lifecycle := l, verdict := some (verdictFor 1 .accept publish101)
    liu := { Liu.off with phase := .window, sampled := publish101.levels } }

theorem witness_completionIsPresentedToEveryBlock :
    (inWindow .online).liu.phase = .window ∧ (inWindow .online).liu.fault = none ∧
    (inWindow .online).verdict = some (verdictFor 1 .accept publish101) ∧
    (inWindow .joining).lifecycle = .joining ∧ (inWindow .leaving).lifecycle = .leaving ∧
    (inWindow .online).liu.sampled ++ (windowLevels silentWindow ++ endField)
      = publish101.levels ++ windowLevels silentWindow ++ endField := by decide +kernel

/-- `net` at a score, with the standing it calls for. -/
def scored (score clean : Nat) : State := { net with fcu := ⟨score, standingOf score, clean, none⟩ }

/-- Scores on both sides of the limits of the standings, and the clean count at 46 and 47. -/
theorem witness_faultScoreAndStanding :
    fcuLaw (scored 0 0) ∧ fcuLaw (scored 47 0) ∧ fcuLaw (scored 48 0) ∧ fcuLaw (scored 119 0) ∧
    fcuLaw (scored 120 46) ∧ fcuLaw (scored 125 47) ∧ (scored 47 0).lifecycle = .online ∧
    (scored 119 0).fcu.standing ≠ .muted ∧ (scored 120 46).fcu.standing = .muted ∧ (scored 120 46).fcu.cleanCount < 47 ∧
    (scored 125 47).fcu.cleanCount = 47 ∧ ({ scored 0 0 with lifecycle := .joining } : State).fcu.standing = .good := by
  unfold fcuLaw; decide +kernel

/-! ### Witnesses: outcomes -/

/-- `net` sending entry 0's PUBLISH. -/
def publish100 : Frame := ⟨.normal, 100, 3, .publish 0 1 [0, 0]⟩

def sending (destroyed : Bool) : State :=
  { net with
    liu := { Liu.off with phase := .sending, contention := .sending }
    inFlight := some ⟨.publish 0, 15, publish100, destroyed⟩ }

/-- A destroyed frame; a frame that ends clean; contention lost at places 1, 19, 20 and 24 of a frame that is recessive
there. -/
theorem witness_ownFrameOutcomeIsHandled :
    net.inFlight = none ∧ (sending true).inFlight = some ⟨.publish 0, 15, publish100, true⟩ ∧
    ((sending false).liu.phase = .sending ∧ silentWindow[publish100.source] = .absent ∧
      (sending false).liu.sampled ++ (publish100.levels ++ windowLevels silentWindow ++ endField)
        = publish100.levels ++ windowLevels silentWindow ++ endField) ∧
    publish100.levels[1]? = some true ∧
    (let f : Frame := ⟨.bulk, 4095, 31, .pull⟩
     f.levels[1]? = some true ∧ f.levels[19]? = some true ∧ f.levels[20]? = some true ∧ f.levels[24]? = some true) := by
  decide +kernel

/-- R39: a sender through SENDING, WINDOW and ENDING, and what it drives there. -/
theorem test_sender_phases :
    runs (exec (.ownFrameOutcome (publish100.levels.take 20)) (sending false)) (fun t => t.liu.phase = .sending ∧
      some t.drives = publish100.levels[20]? ∧
      runs (exec (.ownFrameOutcome (publish100.levels.drop 20)) t) (fun u => u.liu.phase = .window ∧ u.drives = true ∧
        runs (exec (.ownFrameOutcome (windowLevels silentWindow)) u) (fun v => v.liu.phase = .ending ∧ v.drives = true)))
      = true := by decide +kernel

theorem witness_publishOutcomesFollowTheTables :
    ((net.rt 0).delivery = some ⟨.opened, 1, 0, 0, 1⟩ ∧ (net.cfg 0).inhibit ≠ 0 ∧ (net.rt 0).role = .publisher) ∧
    (net.rt 6).delivery = none ∧ (net.rt 6).pending.publish = none ∧ (net.rt 5).role ≠ .publisher ∧
    (let d := account (net.cfg 0) ⟨.opened, 1, 0, 0, 1⟩ .completed (some (silentWindow.set 1 .taken |>.set 2 .taken))
     d.receipts ||| d.refused = (net.cfg 0).required ∧ d.refused = 0) ∧
    (let d := account (net.cfg 0) ⟨.opened, 1, 0, 0, 1⟩ .completed (some (silentWindow.set 1 .taken |>.set 2 .seen))
     d.receipts ||| d.refused = (net.cfg 0).required ∧ d.refused ≠ 0) ∧
    (let d := account (net.cfg 0) ⟨.opened, 1, 0, 0, 2⟩ .unheard (some silentWindow)
     d.receipts ||| d.refused ≠ (net.cfg 0).required ∧ d.attempts = (net.cfg 0).attemptLimit) ∧
    (let d := account (net.cfg 0) ⟨.opened, 1, 0, 0, 1⟩ .destroyed none
     d.receipts ||| d.refused ≠ (net.cfg 0).required ∧ d.attempts ≠ (net.cfg 0).attemptLimit) := by decide +kernel

theorem witness_accountingReadsTheRequiredSlots :
    (net.cfg 0).required.getLsbD 0 = false ∧ (net.cfg 0).required.getLsbD 1 = true ∧
    (net.cfg 0).required.getLsbD 2 = true ∧ (net.cfg 0).required.getLsbD 31 = false := by decide +kernel

/-- A record whose PULL is on the line at 1 and at 2 attempts, and one with a merge watch at 2 and at 3. -/
theorem witness_pullOutcomesFollowTheTables :
    (∀ q ∈ net.pulls, q.entry = 1 → q.onLine = false) ∧
    (let p : PullRecord := ⟨1, .waiting, 1, none, true, false⟩
     let s := { net with pulls := [p] }
     p ∈ s.pulls ∧ (s.pulls.map (·.entry)).Nodup ∧ p.onLine = true ∧ p.attempts + 1 < 3 ∧ p.mergeWatch = false) ∧
    (let p : PullRecord := ⟨1, .waiting, 2, none, true, false⟩
     p.onLine = true ∧ 3 ≤ p.attempts + 1) ∧
    (let p : PullRecord := ⟨1, .waiting, 2, none, false, true⟩
     let s := { net with pulls := [p] }
     p ∈ s.pulls ∧ p.mergeWatch = true ∧ (∀ q ∈ s.pulls, q.mergeWatch = true → q = p) ∧ p.attempts < 3) ∧
    (let p : PullRecord := ⟨1, .waiting, 3, none, false, true⟩
     p.mergeWatch = true ∧ 3 ≤ p.attempts) ∧
    (∃ st : Station, (silentWindow.set 31 .taken)[st] = .taken) ∧ ∀ st : Station, silentWindow[st] ≠ .taken := by
  decide +kernel

theorem witness_claimAndYieldOutcomesFollowTheTables :
    ((net.rt 1).role ≠ .claiming ∧ (net.rt 4).role ≠ .yielding) ∧
    ((net.rt 4).role = .claiming ∧ (net.rt 4).claim = some ⟨.normal, true⟩ ∧ (net.rt 4).source = some ⟨2, 960⟩) ∧
    (∃ st : Station, st ≠ 3 ∧ (silentWindow.set 0 .taken)[st] = .taken) ∧
    (∀ st : Station, st ≠ 3 → (silentWindow.set 3 .taken)[st] ≠ .taken) ∧
    ((silentWindow.set 2 .seen)[(2 : Station)] = .seen ∧ (silentWindow.set 2 .busy)[(2 : Station)] = .busy) ∧
    ((net.rt 5).role = .yielding ∧ (net.rt 5).yield = some ⟨2, 7⟩) := by decide +kernel

theorem witness_announceOutcomesFollowTheRules :
    (AnnounceType.join = .join ∧ 14 + 1 < 16 ∧ ¬ 15 + 1 < 16) ∧ (AnnounceType.leave = .leave ∧ 2 + 1 < 4 ∧ ¬ 3 + 1 < 4) := by
  decide

/-! ### Witnesses: faults, recovery and halting -/

/-- A frame with beats of both levels, one after five dominant bits; wrong check values on both sides of the right one;
keys and kinds at the ends of what is not allowed. -/
theorem witness_faultsAreFoundAsTheManualSays :
    (pull300.levels[9]? = some true ∧ pull300.levels[9 * 2]? = some false) ∧
    (Frame.levels ⟨.normal, 4032, 0, .publish 0 0 []⟩)[9 * 4]? = some true ∧
    endsInFiveDominant ((Frame.levels ⟨.normal, 4032, 0, .publish 0 0 []⟩).take (9 * 4)) ∧
    (0 < 65536 ∧ 0 ≠ (crc pull300.covered).toNat ∧ 65535 ≠ (crc pull300.covered).toNat) ∧
    (silentWindow[pull300.source] = .absent ∧ ¬ endsInFiveDominant [false, true, false]) ∧
    ((pull300.levels)[0]? = some false ∧ (pull300.levels)[41]? = some true) ∧
    (List.replicate 10 true).length = 2 * pull300.source.val := by
  refine ⟨by decide +kernel, by decide +kernel, ⟨(Frame.levels ⟨.normal, 4032, 0, .publish 0 0 []⟩).take 31, by decide +kernel⟩,
    by decide +kernel, ⟨by decide +kernel, ?_⟩, by decide +kernel, by decide +kernel⟩
  rintro ⟨pre, h⟩
  have := congrArg List.length h
  simp at this

/-- R24's third and fourth items at the ends of their ranges: keys 32 and 63; kinds 5 and 7, SYSTEM with another kind,
ANNOUNCE with another class, keys 0 and 31 with another kind, each with what the statement finds there. -/
theorem witness_keysAndKindsNotAllowed :
    (∀ key ∈ [32, 63], ∀ cls ∈ [0, 3],
      rxFaultNow (false :: insertBeats 0 (natBits 2 cls ++ natBits 12 key)) = some .form) ∧
    (∀ x ∈ [(0, 0, 5), (3, 4095, 7), (0, 64, 3), (0, 31, 0), (1, 64, 4), (3, 4095, 4), (2, 0, 2), (2, 31, 3)],
      (5 ≤ x.2.2 ∨ (x.1 = 0 ∧ x.2.2 ≠ 4) ∨ (x.1 ≠ 0 ∧ x.2.2 = 4) ∨ (x.2.1 < 32 ∧ x.2.2 ≠ 4)) ∧
      rxFaultNow (false :: insertBeats 0 (natBits 2 x.1 ++ natBits 12 x.2.1 ++ natBits 3 x.2.2)) = some .form) := by
  decide +kernel

/-- R24's other items at the ends of their ranges, and a fill place of each kind of frame that has one. -/
theorem witness_fieldsNotAllowed :
    (31 < 32 ∧ 63 < 64 ∧ 4095 < 4096 ∧ (31 : Nat) ≠ 0) ∧ (13 ≤ 13 ∧ 15 < 16) ∧ (1 ≤ 1 ∧ 3 < 4) ∧
    (Frame.fillPlace ⟨.system, 31, 31, .announce .leave⟩ 28 ∧ Frame.fillPlace ⟨.system, 31, 31, .announce .leave⟩ 33) ∧
    (Frame.fillPlace ⟨.bulk, 4095, 3, .claim 255 true⟩ 35 ∧ Frame.fillPlace ⟨.bulk, 4095, 3, .claim 255 true⟩ 38) ∧
    (Frame.fillPlace ⟨.urgent, 64, 0, .yield 1 0 0 []⟩ 31 ∧ Frame.fillPlace ⟨.urgent, 64, 0, .yield 1 0 0 []⟩ 33) := by
  simp [Frame.fillPlace]

/-- R24: an announce of type 3, and an announce whose key is not its source. -/
theorem test_announce_form :
    rxFaultNow ((false :: insertBeats 0 (headerBits 0 31 4 31 ++ natBits 2 3)).take 27) = some .form ∧
    rxFaultNow (false :: insertBeats 0 (headerBits 0 4095 4 31)) = some .form := by decide +kernel

/-- R24: a length of 13 in a PUBLISH, and a YIELD to its own source. -/
theorem test_publication_form :
    rxFaultNow (false :: insertBeats 0 (headerBits 1 64 2 0 ++ natBits 8 0 ++ natBits 8 255 ++ natBits 4 13)) = some .form ∧
    rxFaultNow (false :: insertBeats 0 (headerBits 3 4095 0 31 ++ natBits 5 31)) = some .form := by decide +kernel

/-- A GOOD sender that reads dominant at place 41, a receiver that misses the first beat, in ONLINE and in JOINING, and
one that lost contention at the last bit of a key that is not allowed. -/
theorem witness_faultFoundEndsTheFrame :
    (let s := { sending false with inFlight := some ⟨.pull 1, 0, { pull300 with source := 3 }, false⟩ }
     s.liu.phase = .sending ∧ s.fcu.standing ≠ .muted ∧
       txFaultNow { pull300 with source := 3 } (s.liu.sampled ++ [true]) = some .bit) ∧
    (receiving.liu.phase = .receiving ∧ receiving.liu.fault = none ∧ receiving.lifecycle = .online ∧
      sourceIsOwn receiving.own (receiving.liu.sampled ++ ((pull300.levels.take 9).tail ++ [false])) = false ∧
      rxFaultNow (receiving.liu.sampled ++ ((pull300.levels.take 9).tail ++ [false])) = some .beat) ∧
    ({ receiving with lifecycle := .joining } : State).lifecycle = .joining ∧
    rxFaultNow (wrongCheck pull300 0) = some .check ∧
    rxFaultNow ((false :: insertBeats 0 (natBits 2 2 ++ natBits 12 63)) ++ []) = some .form := by decide +kernel

/-- R37: a JOINING station finds the first beat wrong before it knows the length, and is RECOVERING at once. -/
theorem test_joining_fault_recovers :
    runs (exec (.faultFound ((pull300.levels.take 9).tail ++ [false])) { receiving with lifecycle := .joining })
      (fun t => t.liu.phase = .recovering ∧ t.liu.markBits = 0 ∧ t.fcu.lastFault = some .beat) = true := by decide +kernel

/-- R35, R39: a CHECK fault at a GOOD station: the window passes in WINDOW, the mark in ABORTING, then RECOVERING. -/
theorem test_check_mark_phases :
    runs (exec (.faultFound (wrongCheck pull300 0).tail) receiving) (fun t => t.liu.phase = .window ∧ t.drives = true ∧
      runs (exec (.lineRecovered (List.replicate 64 true)) t) (fun u => u.liu.phase = .aborting ∧ u.drives = false ∧
        runs (exec (.lineRecovered (List.replicate 8 false)) u) (fun v => v.liu.phase = .recovering ∧ v.drives = true ∧
          runs (exec (.lineRecovered (List.replicate 6 true)) v) (fun x => x.liu.recovery = 6 ∧
            runs (exec (.lineRecovered [true]) x) (fun y => y.liu.phase = .resting))))) = true := by decide +kernel

/-- `pull300` with its window silent, whole. -/
def pullLine : List Level := pull300.levels ++ windowLevels silentWindow ++ endField

/-- `net` CAUTIOUS, following a frame silently after a fault found at the last of the levels. -/
def silentAfter (sampled : List Level) (k : FaultKind) : State :=
  { net with fcu := ⟨48, .cautious, 0, some k⟩, liu := { Liu.off with phase := .window, fault := some k, sampled := sampled } }

/-- No level, and a recessive and a dominant one, before the seven. -/
theorem witness_sevenAtTheEnd : sevenAtTheEnd [] ∧ sevenAtTheEnd [true, false] := by
  constructor <;> intro x y h <;> have hl := congrArg List.length h <;> simp at hl
  · exact List.length_eq_zero_iff.mp (by omega)
  · rcases x with _ | ⟨a, _ | ⟨b, x⟩⟩
    · simp [List.replicate] at h
    · simp [List.replicate] at h
    · exact List.length_eq_zero_iff.mp (by simp at hl; omega)

/-- Six recessive levels in a row, short of the recovery, and the seventh. -/
theorem witness_shortOfRecovery :
    (∀ x y, List.replicate 6 true ++ [] ≠ x ++ List.replicate 7 true ++ y) ∧
    ({ net with liu := { Liu.off with phase := .recovering, recovery := 6 } } : State).liu.recovery < 7 ∧
    List.replicate 6 true ++ [true] = [] ++ List.replicate 7 true := by
  refine ⟨fun x y h => ?_, by decide, by decide⟩
  have := congrArg List.length h
  simp at this
  omega

theorem witness_recoveryAndSilentEnd :
    ({ net with liu := { Liu.off with phase := .recovering } } : State).liu.phase = .recovering ∧
    (let s := { net with liu := { Liu.off with phase := .aborting, markBits := 8, fault := some .beat } }
     s.liu.markBits ≠ 0 ∧ (List.replicate 8 false).length = s.liu.markBits) ∧
    (let s := silentAfter (wrongCheck pull300 0) .check
     s.liu.phase = .window ∧ s.liu.fault ≠ none ∧ s.liu.markBits = 0 ∧
       s.liu.sampled = (wrongCheck pull300 0 ++ windowLevels silentWindow ++ endField).take 43 ∧
       lengthKnown s.liu.sampled = true ∧ 0 ≠ (crc pull300.covered).toNat ∧ pull300.levels.length ≤ 43) := by
  decide +kernel

/-- Lines with one thing amiss: a dominant beat at place 27, and the seventh end-field bit dominant; and a further place,
the third end-field bit, where the first of them shows what is due. -/
theorem witness_irregularLines :
    pull300.irregularLine silentWindow 28 (pullLine.set 27 (!pullLine.getD 27 true)) ∧
    pull300.irregularLine silentWindow 114 (pullLine.set 113 false) ∧
    lengthKnown ((pullLine.set 27 (!pullLine.getD 27 true)).take 28) = true ∧
    lengthKnown ((pullLine.set 113 false).take 114) = true ∧
    (pull300.fixedPlace 109 ∧ (pullLine.set 27 (!pullLine.getD 27 true))[109]? = some true) ∧
    (let f : Frame := ⟨.bulk, 4095, 4, .claim 255 true⟩
     let s := silentAfter (f.levels.take 35 ++ [false]) .form
     s.liu.phase = .window ∧ s.liu.fault ≠ none ∧ s.liu.markBits = 0 ∧ f.levels[36]? = some false) := by
  refine ⟨.inr (.inr ⟨27, !pullLine.getD 27 true, ?_⟩), .inr (.inr ⟨113, false, ?_⟩), by decide +kernel,
    by decide +kernel, ⟨.inr (.inr ?_), by decide +kernel⟩, by decide +kernel⟩
  · exact ⟨by decide, .inl (by decide +kernel), by decide, by decide +kernel, rfl⟩
  · exact ⟨by decide, .inr (.inr (by decide +kernel)), by decide, by decide +kernel, rfl⟩
  · decide +kernel

/-- R37: the fault is the seventh end-field bit, and the frame ends with it. -/
theorem test_silent_end_at_the_fault :
    runs (exec (.silentFrameEnd []) { silentAfter (pullLine.set 113 false) .form with
      liu := { (silentAfter (pullLine.set 113 false) .form).liu with phase := .ending } })
      (fun t => t.liu.phase = .resting ∧ t.liu.fault = none) = true := by decide +kernel

/-- R37: a dominant end-field bit after a frame followed silently, then seven recessive bits. -/
theorem test_further_irregularity_recovers :
    runs (exec (.lineRecovered ((pullLine.take 109).drop 43 ++ [false] ++ List.replicate 7 true))
      (silentAfter (pullLine.take 43) .check)) (fun t => t.liu.phase = .resting) = true ∧
    runs (exec (.silentFrameEnd ((pullLine.take 109).drop 43 ++ [false] ++ List.replicate 4 true))
      (silentAfter (pullLine.take 43) .check)) (fun t => t.liu.phase = .window) = true := by decide +kernel

/-- R26: contention lost at the first beat of `pull300`; the frame is received on to its verdict and its completion. -/
def beatLost : State :=
  { receiving with liu := { receiving.liu with
    contention := .lostHeader, sampled := pull300.levels.take 9 ++ [false] } }

theorem test_beat_loss_receives_on :
    runs (exec (.frameVerdictPoint (pull300.levels.drop 10)) beatLost) (fun t => t.liu.phase = .window ∧
      t.verdict.map (·.frame) = some pull300 ∧
      runs (exec (.receivedFrameCompletion (windowLevels silentWindow ++ endField)) t)
        (fun u => u.liu.phase = .resting ∧ u.liu.window = some silentWindow)) = true ∧
    exec (.faultFound []) beatLost = .next beatLost := ⟨by decide +kernel, rfl⟩

/-- R26, R24: contention lost at the last bit of a key that is not allowed is a FORM fault at that bit. -/
theorem test_form_at_the_losing_bit :
    runs (exec (.faultFound []) { receiving with liu := { receiving.liu with
      contention := .lostHeader, sampled := false :: insertBeats 0 (natBits 2 2 ++ natBits 12 62) } })
      (fun t => t.liu.fault = some .form ∧ t.liu.phase = .aborting) = true := by decide +kernel

theorem witness_beatLoss :
    (9 = 9 ∨ 9 = 18) ∧ pull300.levels[9]? = some true ∧ beatLost.liu.phase = .receiving ∧ beatLost.liu.fault = none ∧
    beatLost.liu.sampled = pull300.levels.take 9 ++ [false] ∧ beatLost.lifecycle ≠ .joining ∧
    beatLost.params = some ⟨3, .kbit100, 100, 300, 50, 20, 10⟩ ∧ pull300.source ≠ 3 ∧
    (Frame.levels ⟨.bulk, 4095, 4, .claim 255 true⟩)[18]? = some true := by decide +kernel

theorem witness_sightingsAndTheHalt :
    (let f : Frame := { pull300 with source := 3 }
     receiving.params = some ⟨3, .kbit100, 100, 300, 50, 20, 10⟩ ∧ receiving.lifecycle = .online ∧ f.source = 3 ∧
       receiving.liu.phase = .receiving ∧ receiving.liu.sampled ++ (f.levels.take 25).tail = f.levels.take 25) ∧
    ({ net with liu := { Liu.off with phase := .ending, fault := some .slot } } : State).liu.fault = some .slot ∧
    (net.rt 4).role = .claiming := by decide +kernel

theorem witness_haltedIsLeftByRestartAndResetAlone : haltedLaw (halt net) ∧ (halt net).lifecycle = .halted := by
  unfold haltedLaw; decide +kernel

/-! ### Witnesses: frames and contention -/

/-- The longest frame, of the lowest key, and a frame without a body. -/
theorem witness_frameLevelsAreReadBack :
    Frame.allowed ⟨.urgent, 64, 0, .yield 31 255 0 (List.replicate 12 0xFF)⟩ ∧ pull300.allowed := by
  simp only [Frame.allowed, pull300]; decide

theorem witness_lowerArbitrationValueWins :
    (let g : Frame := ⟨.normal, 310, 14, .publish 0 0 []⟩
     g.allowed ∧ pull300.allowed ∧ pull300.arbitrationValue < g.arbitrationValue) ∧
    (let g : Frame := { pull300 with source := 9 }
     g.allowed ∧ pull300.arbitrationValue = g.arbitrationValue ∧ pull300.source < g.source) := by
  simp only [Frame.allowed, pull300]; decide

/-! ### Witnesses: laws that every step keeps -/

/-- `net` with a command waiting. -/
def stepping : State := { net with pending := [.ownAnnounceTimerExpiry] }

theorem witness_stepping : ∃ t, step stepping = .next t := ⟨_, rfl⟩

theorem witness_noticeAndDeliveryLawsAreKept :
    noticeLaw stepping ∧ ∀ i, deliveryLaw (stepping.cfg i) (stepping.rt i) := by
  have all : ∀ i, ((stepping.rt i).delivery.all fun d =>
      decide ((stepping.cfg i).required ≠ 0 ∧ d.receipts &&& d.refused = 0 ∧
        (d.receipts ||| d.refused) &&& ~~~ (stepping.cfg i).required = 0 ∧ d.attempts ≤ (stepping.cfg i).attemptLimit ∧
        (d.state = .opened → d.attempts < (stepping.cfg i).attemptLimit))) = true ∧
      ((stepping.cfg i).required ≠ 0 → 1 ≤ (stepping.cfg i).attemptLimit ∧ (stepping.cfg i).attemptLimit ≤ 15) := by
    decide +kernel
  refine ⟨by unfold noticeLaw; decide +kernel, fun i => ⟨(all i).2, fun d hd => ?_⟩⟩
  have := (all i).1
  rw [hd] at this
  exact of_decide_eq_true this

theorem witness_itemPullAndMirrorLawsAreKept : mirrorsLawful stepping := by
  have sources : ∀ i, ((stepping.rt i).source.all fun o => decide (o.station ≠ 3)) = true ∧
      ((stepping.rt i).mirror = some .empty → valueOf (stepping.cfg i) (stepping.rt i)
        = List.replicate (stepping.cfg i).length 0) := by decide +kernel
  have targets : ∀ i, ((stepping.rt i).yield.all fun y => decide (y.target ≠ 3)) = true := by decide +kernel
  have params : stepping.params = some ⟨3, .kbit100, 100, 300, 50, 20, 10⟩ := by decide +kernel
  refine ⟨⟨fun h => absurd h (by decide +kernel), fun v h => absurd h (by simp [stepping, net, State.reset]),
    by unfold entriesLaw roleLaw presenceLaw pendingLaw claimLaw holdLaw; decide +kernel,
    by unfold pullTableLaw pullLaw wantedLaw pullRequestLaw; decide +kernel⟩, ?_, fun i => ⟨?_, ?_, (sources i).2⟩⟩
  · intro i y p hy hp
    have := targets i
    rw [hy] at this
    rw [params] at hp
    cases hp
    simpa using this
  · revert i
    unfold configLaw
    decide +kernel
  · intro o ho
    have := (sources i).1
    rw [ho] at this
    rw [params]
    exact fun h => (of_decide_eq_true this) (Option.some.inj h).symm

theorem witness_conductLifecycleAndRosterLawsAreKept :
    driveLawful stepping ∧ lifecycleLawful stepping ∧ rosterLawful stepping := by
  have params : stepping.params = some ⟨3, .kbit100, 100, 300, 50, 20, 10⟩ := by decide +kernel
  have configuring : configuringLaw stepping := fun h => absurd h (by decide +kernel)
  have halted : haltedLaw stepping := fun h => absurd h (by decide +kernel)
  have fcu : fcuLaw stepping := by unfold fcuLaw; decide +kernel
  refine ⟨⟨fcu, by unfold quietLaw; decide +kernel, by unfold driveLaw; decide +kernel⟩,
    ⟨configuring, halted, fcu, by unfold lifecycleLaw; decide +kernel⟩, ⟨configuring, halted, ?_, ?_, ?_⟩⟩
  · intro p hp
    rw [params] at hp
    cases hp
    decide +kernel
  · decide +kernel
  · intro p hp
    rw [params] at hp
    cases hp
    decide +kernel

theorem witness_configurationIsKept :
    (∀ i, configLaw (stepping.cfg i)) ∧ keyLaw stepping ∧ stepping.lifecycle ≠ .configuring ∧
    stepping.pending.head? ≠ some .fullReset := by
  unfold configLaw keyLaw; decide +kernel

end Sys2Proof.Tests
end

section
/-! SUPPORT. What a step can do at all: it runs one command, and but for the commands of Station Control that configure,
clear or reset the part, no command touches the configuration, fixes a verdict or enters CONFIGURING. -/

namespace Sys2Proof.Machine

/-! ### From a command to a step -/

/-- Every state the outcome goes on to has the property. -/
def Leads (P : State → Prop) (o : Host.Outcome State Fault Refusal) : Prop := ∀ t, o = .next t → P t

@[simp] theorem leads_done {P : State → Prop} {s : State} : Leads P (done s) ↔ P s :=
  ⟨fun h => h s rfl, fun h t ht => by cases ht; exact h⟩

theorem Leads.imp {P Q : State → Prop} {o : Host.Outcome State Fault Refusal} (h : Leads P o) (hpq : ∀ t, P t → Q t) :
    Leads Q o := fun t ht => hpq t (h t ht)

/-- A step idles or runs the command at the front of the queue. -/
theorem step_leads {P : State → Prop} {s : State} (idle : P s)
    (run : ∀ c rest, s.pending = c :: rest → Leads P (exec c (s.withPending rest))) : Leads P (step s) := by
  unfold step
  split
  · exact leads_done.2 idle
  · next c rest hq => exact run c rest hq

/-- A command on one entry is refused or runs on a used entry (R180). -/
theorem onEntry_of {P : State → Prop} {s : State} {ops : List Byte} {run : EntryIx → State}
    (refused : ∀ st, P (refuse s ops st)) (ran : ∀ i, (s.cfg i).role ≠ .unused → P (run i)) :
    P (onEntry s ops run) := by
  unfold onEntry
  split
  · exact refused _
  · next i hi =>
    refine ran i fun hu => ?_
    unfold entryOperand at hi
    repeat' split at hi
    · cases hi
    · cases hi
    · next hr => cases hi; exact hr hu
    · cases hi

/-! ### Steady states -/

/-- `t` has the parameters and the configuration of `s`, its verdict or none, and is not newly in CONFIGURING. -/
structure Steady (s t : State) : Prop where
  params : t.params = s.params
  cfg : ∀ i, t.cfg i = s.cfg i
  verdict : t.verdict = s.verdict ∨ t.verdict = none
  lifecycle : s.lifecycle ≠ .configuring → t.lifecycle ≠ .configuring

theorem Steady.refl (s : State) : Steady s s := ⟨rfl, fun _ => rfl, .inl rfl, id⟩

section
variable {s₀ s t : State} (h : Steady s₀ s)
include h

theorem Steady.of_eq (params : t.params = s.params) (cfg : ∀ i, t.cfg i = s.cfg i)
    (verdict : t.verdict = s.verdict) (lifecycle : t.lifecycle = s.lifecycle) : Steady s₀ t where
  params := params.trans h.params
  cfg i := (cfg i).trans (h.cfg i)
  verdict := by rw [verdict]; exact h.verdict
  lifecycle := by rw [lifecycle]; exact h.lifecycle

theorem Steady.dropVerdict : Steady s₀ { s with verdict := none } := ⟨h.params, h.cfg, .inr rfl, h.lifecycle⟩

/-! ### One field replaced -/

theorem Steady.withLiu {l : Liu} : Steady s₀ { s with liu := l } := h.of_eq rfl (fun _ => rfl) rfl rfl

theorem Steady.withAnnounce {a : Option AnnounceRequest} : Steady s₀ { s with announce := a } :=
  h.of_eq rfl (fun _ => rfl) rfl rfl

theorem Steady.withInFlight {fl : Option InFlight} : Steady s₀ { s with inFlight := fl } :=
  h.of_eq rfl (fun _ => rfl) rfl rfl

theorem Steady.withAnnounceTimer {x : Timer} : Steady s₀ { s with announceTimer := x } :=
  h.of_eq rfl (fun _ => rfl) rfl rfl

theorem Steady.withNotices {q : List NoticeRecord} : Steady s₀ { s with notices := q } :=
  h.of_eq rfl (fun _ => rfl) rfl rfl

theorem Steady.withFlags {x : FlagSet} : Steady s₀ { s with flags := x } := h.of_eq rfl (fun _ => rfl) rfl rfl

theorem Steady.withTime {x : Time} : Steady s₀ { s with time := x } := h.of_eq rfl (fun _ => rfl) rfl rfl

theorem Steady.withShiftedOut {x : List Byte} : Steady s₀ { s with shiftedOut := x } :=
  h.of_eq rfl (fun _ => rfl) rfl rfl

theorem Steady.withDraws {n : Nat} : Steady s₀ { s with draws := n } := h.of_eq rfl (fun _ => rfl) rfl rfl

/-! ### The shared operations -/

theorem Steady.withReply {u : State} {ops : List Byte} {r : List Byte} : Steady s₀ (withReply u ops s r) :=
  h.of_eq rfl (fun _ => rfl) rfl rfl

theorem Steady.modRt {i : EntryIx} {f : Runtime → Runtime} : Steady s₀ (s.modRt i f) :=
  h.of_eq (by simp) (by simp) (by simp) (by simp)

theorem Steady.mapRt {f : EntryIx → ItemConfig → Runtime → Runtime} : Steady s₀ (s.mapRt f) :=
  h.of_eq (by simp) (by simp) (by simp) (by simp)

theorem Steady.post {i : EntryIx} {rs : ReasonSet} : Steady s₀ (post s i rs) :=
  h.of_eq (by simp) (by simp) (by simp) (by simp)

theorem Steady.raisePublish {i : EntryIx} : Steady s₀ (raisePublish s i) := h.modRt

theorem Steady.raiseAnnounce {t : AnnounceType} : Steady s₀ (raiseAnnounce s t) :=
  h.of_eq (by simp) (by simp) (by simp) (by simp)

theorem Steady.raisePull {i : EntryIx} : Steady s₀ (raisePull s i) := h.modRt

theorem Steady.addPull {i : EntryIx} : Steady s₀ (addPull s i) :=
  h.of_eq (by simp) (by simp) (by simp) (by simp)

theorem Steady.modPull {i : EntryIx} {f : PullRecord → PullRecord} : Steady s₀ (modPull s i f) :=
  h.of_eq (by simp) (by simp) (by simp) (by simp)

theorem Steady.removePull {i : EntryIx} : Steady s₀ (removePull s i) :=
  h.of_eq (by simp) (by simp) (by simp) (by simp)

theorem Steady.requestAutoPull {i : EntryIx} : Steady s₀ (requestAutoPull s i) :=
  h.of_eq (by simp) (by simp) (by simp) (by simp)

theorem Steady.enterPublisher {i : EntryIx} {g v : Byte} {x : Vector Byte 12} :
    Steady s₀ (enterPublisher s i g v x) :=
  h.of_eq (by simp) (by simp) (by simp) (by simp)

theorem Steady.adopt {i : EntryIx} : Steady s₀ (adopt s i) := h.enterPublisher

theorem Steady.enterYielding {i : EntryIx} {st : Station} : Steady s₀ (enterYielding s i st) := h.modRt

theorem Steady.failYield {i : EntryIx} : Steady s₀ (failYield s i) := h.modRt.post

theorem Steady.enterMirror {i : EntryIx} {st : Station} {g v : Byte} {x : Vector Byte 12} :
    Steady s₀ (enterMirror s i st g v x) := h.modRt

theorem Steady.endClaim {i : EntryIx} {r : Reason} : Steady s₀ (endClaim s i r) :=
  h.of_eq (by simp) (by simp) (by simp) (by simp)

theorem Steady.settleLiu : Steady s₀ (settleLiu s) :=
  h.of_eq (by simp) (by simp) (by simp) (by simp)

theorem Steady.betweenFrames {w : Option Window} : Steady s₀ (betweenFrames s w) :=
  h.of_eq (by simp) (by simp) (by simp) (by simp)

theorem Steady.countJoinQuiet {l : List Level} : Steady s₀ (countJoinQuiet s l) :=
  h.of_eq (by simp) (by simp) (by simp) (by simp)

theorem Steady.setFlag {n : StationNotice} : Steady s₀ (setFlag s n) :=
  h.of_eq (by simp) (by simp) (by simp) (by simp)

theorem Steady.halt : Steady s₀ (halt s) where
  params := by rw [halt_params, h.params]
  cfg i := by rw [halt_cfg, h.cfg]
  verdict := .inr (halt_verdict s)
  lifecycle _ := by rw [halt_lifecycle]; decide

theorem Steady.withLifecycle {l : Lifecycle} (hl : l ≠ .configuring) : Steady s₀ { s with lifecycle := l } where
  params := h.params
  cfg := h.cfg
  verdict := h.verdict
  lifecycle _ := hl

theorem Steady.mapRoster {f : Station → RosterRecord → RosterRecord} : Steady s₀ (s.mapRoster f) :=
  h.of_eq (by simp) (by simp) (by simp) (by simp)

theorem Steady.enterOnline : Steady s₀ (enterOnline s) := by
  unfold Machine.enterOnline
  exact ((h.withLifecycle (l := .online) (by decide)).mapRt.mapRoster.withAnnounceTimer).raiseAnnounce.setFlag.settleLiu

theorem Steady.leaveMuted {n : Nat} : Steady s₀ (leaveMuted s n) :=
  h.of_eq (by simp) (by simp) (by simp) (by simp)

theorem Steady.noteFault {k : FaultKind} : Steady s₀ (noteFault s k) :=
  h.of_eq (by simp) (by simp) (by simp) (by simp)

theorem Steady.reportStanding : Steady s₀ (reportStanding s) := by
  unfold Machine.reportStanding
  split
  · exact h.halt
  · exact h.settleLiu

theorem Steady.restartAnnounceTimer : Steady s₀ (restartAnnounceTimer s) :=
  h.of_eq (by simp) (by simp) (by simp) (by simp)

theorem Steady.takeEvidence {source : Option Station} {w : Window} : Steady s₀ (takeEvidence s source w) := h.mapRoster

theorem Steady.orphanAndReport {st : Station} : Steady s₀ (orphanAndReport s st) :=
  h.of_eq (by simp) (by simp) (by simp) (by simp)

theorem Steady.setRecord {st : Station} {r : RosterRecord} : Steady s₀ (setRecord s st r) := h.mapRoster

theorem Steady.hearAnnounce {st : Station} {t : AnnounceType} {w : Window} : Steady s₀ (hearAnnounce s st t w) :=
  h.of_eq (by simp) (by simp) (by simp) (by simp)

theorem Steady.scoreOutcome {o : TxOutcome} : Steady s₀ (scoreOutcome s o) :=
  h.of_eq (by simp) (by simp) (by simp) (by simp)

theorem Steady.scoreReceiverFault {k : FaultKind} : Steady s₀ (scoreReceiverFault s k) :=
  h.of_eq (by simp) (by simp) (by simp) (by simp)

theorem Steady.scoreCompletion : Steady s₀ (scoreCompletion s) :=
  h.of_eq (by simp) (by simp) (by simp) (by simp)

/-! ### Verdicts at completion and the merge watch -/

theorem Steady.applyAccept {i : EntryIx} {st : Station} {b : FrameBody} {rs : ReasonSet} :
    Steady s₀ (applyAccept s i st b rs) := by
  unfold Machine.applyAccept
  split
  · exact h.modRt.removePull.post
  · exact h

theorem Steady.applyRefresh {i : EntryIx} {st : Station} {b : FrameBody} : Steady s₀ (applyRefresh s i st b) := by
  unfold Machine.applyRefresh
  split
  · split
    · exact h.modRt.removePull.post
    · exact h.modRt.removePull.post
    all_goals exact h.applyAccept
  · exact h

theorem Steady.applyCede {i : EntryIx} {v : VerdictRecord} : Steady s₀ (applyCede s i v) := by
  unfold Machine.applyCede
  split
  · dsimp only
    repeat' split
    · exact h.enterYielding.post
    all_goals exact h.enterYielding
  · exact h

theorem Steady.applyAssume {i : EntryIx} {v : VerdictRecord} : Steady s₀ (applyAssume s i v) := by
  unfold Machine.applyAssume
  split
  · exact h.enterPublisher
  · exact h

theorem Steady.applyDepose {i : EntryIx} {v : VerdictRecord} : Steady s₀ (applyDepose s i v) := by
  unfold Machine.applyDepose
  split
  · exact h.enterMirror.post
  · exact h

theorem Steady.applyVerdict {v : VerdictRecord} : Steady s₀ (applyVerdict s v) := by
  unfold Machine.applyVerdict
  split
  · exact h
  · split
    · exact h.applyAccept
    · exact h.applyRefresh
    · exact h.post
    · exact h
    · exact h
    · exact h.raisePublish
    · exact h.applyCede
    · exact h.applyAssume
    · exact h.applyDepose
    · exact h.post.raisePublish
    · exact h.post

theorem Steady.pullUnanswered {i : EntryIx} : Steady s₀ (pullUnanswered s i) := h.removePull.post

theorem Steady.judgePullWindow {i : EntryIx} {w : Window} : Steady s₀ (judgePullWindow s i w) := by
  unfold Machine.judgePullWindow
  split
  · exact h.modPull.modRt
  · exact h.pullUnanswered

theorem Steady.endMergeWatch {v : VerdictRecord} {w : Window} : Steady s₀ (endMergeWatch s v w) := by
  unfold Machine.endMergeWatch judgeMergeWatch
  repeat' split
  · exact h.judgePullWindow
  all_goals exact h

theorem Steady.abandonMergeWatch : Steady s₀ (abandonMergeWatch s) := by
  unfold Machine.abandonMergeWatch
  repeat' split
  · exact h
  · exact h.modPull
  · exact h.pullUnanswered

/-! ### Capture and outcomes -/

theorem Steady.capture {q : Request} : Steady s₀ (capture s q) := by
  have left : Steady s₀ (leaveSet s q) := by
    unfold leaveSet
    cases q with
    | publish i => exact h.modRt
    | pull i => exact h.modRt.modPull
    | claim i => exact h.modRt
    | yield i => exact h.modRt
    | announce t => exact h.withAnnounce
  exact left.withInFlight

theorem Steady.returnPublish {i : EntryIx} {n : Nat} : Steady s₀ (returnPublish s i n) := h.modRt

theorem Steady.publishOutcome {i : EntryIx} {n : Nat} {captured : Byte} {o : TxOutcome} {w : Option Window} :
    Steady s₀ (publishOutcome s i n captured o w) := by
  have inhibited : Steady s₀ (startInhibit s i o) := h.modRt
  unfold Machine.publishOutcome
  dsimp only
  split
  · unfold governedPublish
    dsimp only
    split
    · exact inhibited.modRt.post
    · exact inhibited.modRt.returnPublish
  · unfold unconfirmedPublish
    repeat' split
    all_goals first
      | exact inhibited
      | exact inhibited.returnPublish
      | exact inhibited.post

theorem Steady.announceOutcome {t : AnnounceType} {n : Nat} {o : TxOutcome} :
    Steady s₀ (announceOutcome s t n o).1 := by
  have returned : ∀ n, Steady s₀ (returnAnnounce s t n) := fun n => h.withAnnounce
  unfold Machine.announceOutcome
  repeat' split
  all_goals first | exact h | exact returned _

theorem Steady.keepPull {i : EntryIx} {f : PullRecord → PullRecord} : Steady s₀ (keepPull s i f) :=
  h.modPull.raisePull

theorem Steady.pullOutcome {i : EntryIx} {o : TxOutcome} {w : Option Window} : Steady s₀ (pullOutcome s i o w) := by
  unfold Machine.pullOutcome
  split
  · exact h
  · split
    · split
      · exact h.modPull.judgePullWindow
      · exact h.pullUnanswered
      · split
        · exact h.keepPull
        · exact h.pullUnanswered
      · exact h.keepPull
      · exact h.keepPull
    · exact h

theorem Steady.keepClaim {i : EntryIx} : Steady s₀ (keepClaim s i) := h.modRt

theorem Steady.claimCompleted {i : EntryIx} {k : ClaimKind} {w : Window} : Steady s₀ (claimCompleted s i k w) := by
  unfold Machine.claimCompleted
  repeat' split
  · exact h
  · exact h.adopt
  · exact h.endClaim
  · exact h.keepClaim
  · exact h.keepClaim

theorem Steady.claimOutcome {i : EntryIx} {o : TxOutcome} {w : Option Window} : Steady s₀ (claimOutcome s i o w) := by
  unfold Machine.claimOutcome
  split
  · exact h
  · split
    · dsimp only
      split
      · exact h.modRt.claimCompleted
      · split
        · exact h.modRt.keepClaim
        · exact h.modRt.adopt
      · exact h.modRt.keepClaim
      · exact h.modRt.keepClaim
      · exact h.modRt.endClaim
    · exact h

theorem Steady.retryYield {i : EntryIx} {n : Nat} : Steady s₀ (retryYield s i n) := by
  unfold Machine.retryYield
  split
  · exact h.modRt
  · exact h.failYield

theorem Steady.yieldOutcome {i : EntryIx} {o : TxOutcome} {w : Option Window} : Steady s₀ (yieldOutcome s i o w) := by
  unfold Machine.yieldOutcome
  split
  · exact h
  · split
    · dsimp only
      split
      · split
        · exact h.enterMirror.post
        · exact h.failYield
        · exact h.retryYield
        · exact h.retryYield
      · exact h.retryYield
      · exact h.retryYield
      · exact h.modRt
      · exact h.modRt
    · exact h

theorem Steady.fcuOutcome {o : TxOutcome} : Steady s₀ (fcuOutcome s o) := by
  unfold Machine.fcuOutcome
  split
  · exact h.noteFault.scoreOutcome
  · exact h.scoreOutcome

theorem Steady.outcomeEvidence {o : TxOutcome} {w : Option Window} : Steady s₀ (outcomeEvidence s o w) := by
  unfold Machine.outcomeEvidence
  split
  · exact h.takeEvidence.restartAnnounceTimer
  · exact h.takeEvidence
  · exact h

theorem Steady.ownerOutcome {fl : InFlight} {o : TxOutcome} {w : Option Window} :
    Steady s₀ (ownerOutcome s fl o w).1 := by
  unfold Machine.ownerOutcome
  split
  · exact h.publishOutcome
  · exact h.pullOutcome
  · exact h.claimOutcome
  · exact h.yieldOutcome
  · exact h.announceOutcome

theorem Steady.afterOutcome {leaveOver : Bool} : Steady s₀ (afterOutcome s leaveOver) := by
  unfold Machine.afterOutcome
  split
  · exact h.halt
  · exact h.reportStanding

theorem Steady.handleOutcome {fl : InFlight} {o : TxOutcome} {w : Option Window} :
    Steady s₀ (handleOutcome s fl o w) := by
  unfold Machine.handleOutcome
  exact h.withInFlight.fcuOutcome.outcomeEvidence.ownerOutcome.afterOutcome

/-! ### The parts of a command -/

theorem Steady.refuse {ops : List Byte} {st : Status} : Steady s₀ (refuse s ops st) := h.withReply

theorem Steady.refillNotices : Steady s₀ (refillNotices s) :=
  h.of_eq (by simp) (by simp) (by simp) (by simp)

theorem Steady.takeClaim {i : EntryIx} : Steady s₀ (takeClaim s i) := h.removePull.modRt

theorem Steady.startStation : Steady s₀ (startStation s) := by
  have emptied : Steady s₀ (s.mapRt fun _ c _ => resetRuntime c) := h.mapRt
  have entries : (Machine.startStation s).entries = (s.mapRt fun _ c _ => resetRuntime c).entries := rfl
  have params : (Machine.startStation s).params = s.params := by simp [Machine.startStation]
  have lifecycle : (Machine.startStation s).lifecycle = .joining := rfl
  exact ⟨params.trans h.params, fun i => (State.cfg_congr entries i).trans (emptied.cfg i), .inr rfl,
    fun _ => by simp [lifecycle]⟩

theorem Steady.enterLeaving : Steady s₀ (enterLeaving s) := by
  have stopped : Steady s₀ (s.mapRt fun _ _ r => { r with periodTimer := none }) := h.mapRt
  have entries : (Machine.enterLeaving s).entries = (s.mapRt fun _ _ r => { r with periodTimer := none }).entries := rfl
  have params : (Machine.enterLeaving s).params = s.params := by simp [Machine.enterLeaving]
  have verdict : (Machine.enterLeaving s).verdict = s.verdict := by simp [Machine.enterLeaving]
  have lifecycle : (Machine.enterLeaving s).lifecycle = .leaving := rfl
  exact ⟨params.trans h.params, fun i => (State.cfg_congr entries i).trans (stopped.cfg i),
    by rw [verdict]; exact h.verdict, fun _ => by simp [lifecycle]⟩

theorem Steady.liuOnFault {levels : List Level} {k : FaultKind} : Steady s₀ (liuOnFault s levels k) := h.withLiu

theorem Steady.countGap {n : Nat} : Steady s₀ (countGap s n) := by
  unfold Machine.countGap
  split
  · exact h.withLiu
  · exact h

theorem Steady.liuAfterOutcome {levels : List Level} {o : TxOutcome} {w : Option Window} :
    Steady s₀ (liuAfterOutcome s levels o w) := by
  unfold Machine.liuAfterOutcome
  split
  · exact h.withLiu
  · exact h.withLiu
  all_goals exact h.betweenFrames

theorem Steady.senderFault {fl : InFlight} {levels : List Level} {k : FaultKind} :
    Steady s₀ (senderFault s fl levels k) := by
  unfold Machine.senderFault
  exact h.liuOnFault.withInFlight.noteFault

theorem Steady.receiverFault {levels : List Level} {k : FaultKind} : Steady s₀ (receiverFault s levels k) := by
  unfold Machine.receiverFault
  exact h.countJoinQuiet.liuOnFault.dropVerdict.abandonMergeWatch.scoreReceiverFault.reportStanding

theorem Steady.completionEvidence {f : Frame} {w : Window} : Steady s₀ (completionEvidence s f w) := by
  unfold Machine.completionEvidence
  split
  · exact h.hearAnnounce
  all_goals exact h.takeEvidence

theorem Steady.afterAnswer {driven : Bool} : Steady s₀ (afterAnswer s driven) := by
  unfold Machine.afterAnswer
  split
  · exact h.restartAnnounceTimer
  · exact h

theorem Steady.afterCompletion : Steady s₀ (afterCompletion s) := by
  unfold Machine.afterCompletion
  split
  · exact h.enterOnline
  · exact h

theorem Steady.presentCompletion {v : VerdictRecord} {w : Window} : Steady s₀ (presentCompletion s v w) := by
  unfold Machine.presentCompletion
  exact h.dropVerdict.applyVerdict.endMergeWatch.completionEvidence.scoreCompletion.afterAnswer.afterCompletion

theorem Steady.sampleOn {levels : List Level} {phase : LiuPhase} : Steady s₀ (sampleOn s levels phase) :=
  h.countJoinQuiet.withLiu

end

/-! ### Every command but five leaves a steady state -/

/-- The commands that configure, clear or reset the part, and the one that fixes a verdict. -/
def setsUp : Instr → Bool
  | .setStation _ | .setItem _ | .restart _ | .fullReset | .frameVerdictPoint _ => true
  | _ => false

section
variable {s : State}

theorem execNextNotice_steady {ops : List Byte} : Leads (Steady s) (execNextNotice ops s) := by
  have h := Steady.refl s
  unfold execNextNotice
  split
  · exact leads_done.2 h.refuse
  · exact leads_done.2 h.withNotices.refillNotices.withReply

theorem execWrite_steady {ops : List Byte} : Leads (Steady s) (execWrite ops s) := by
  have h := Steady.refl s
  refine leads_done.2 (onEntry_of (fun _ => h.refuse) fun i _ => ?_)
  repeat' split
  · exact h.refuse
  · exact h.modRt.withReply
  · exact h.refuse

theorem execHold_steady {ops : List Byte} : Leads (Steady s) (execHold ops s) := by
  have h := Steady.refl s
  have drawn : Steady s (holdLimit s).2 := by
    unfold holdLimit
    split
    · exact h
    · exact h.withDraws
  refine leads_done.2 (onEntry_of (fun _ => h.refuse) fun i _ => ?_)
  split
  · exact drawn.modRt.withReply
  · exact h.refuse

theorem execRelease_steady {ops : List Byte} : Leads (Steady s) (execRelease ops s) := by
  have h := Steady.refl s
  refine leads_done.2 (onEntry_of (fun _ => h.refuse) fun i _ => ?_)
  split
  · exact h.modRt.withReply
  · exact h.refuse

theorem execPull_steady {ops : List Byte} : Leads (Steady s) (execPull ops s) := by
  have h := Steady.refl s
  refine leads_done.2 (onEntry_of (fun _ => h.refuse) fun i _ => ?_)
  repeat' split
  · exact h.withReply
  · exact h.addPull.withReply
  · exact h.refuse
  · exact h.refuse

theorem execClaim_steady {ops : List Byte} : Leads (Steady s) (execClaim ops s) := by
  have h := Steady.refl s
  refine leads_done.2 (onEntry_of (fun _ => h.refuse) fun i _ => ?_)
  split
  · exact h.takeClaim.withReply
  · exact h.refuse

theorem execStart_steady {ops : List Byte} : Leads (Steady s) (execStart ops s) := by
  have h := Steady.refl s
  unfold execStart
  repeat' split
  · exact leads_done.2 h.refuse
  · exact leads_done.2 h.withReply
  · exact leads_done.2 h.startStation.withReply

theorem execStop_steady {ops : List Byte} : Leads (Steady s) (execStop ops s) := by
  have h := Steady.refl s
  unfold execStop
  repeat' split
  · exact leads_done.2 h.refuse
  · exact leads_done.2 h.halt.withReply
  · exact leads_done.2 h.enterLeaving.withReply

theorem execRejoin_steady {ops : List Byte} : Leads (Steady s) (execRejoin ops s) := by
  have h := Steady.refl s
  unfold execRejoin
  split
  · exact leads_done.2 h.leaveMuted.withReply
  · exact leads_done.2 h.refuse

theorem execLineFree_steady {n : Nat} : Leads (Steady s) (execLineFree n s) := by
  have h := (Steady.refl s).countGap (n := n)
  unfold execLineFree
  dsimp only
  split
  · exact leads_done.2 h.withLiu
  · exact leads_done.2 h

theorem execStartBitCapture_steady : Leads (Steady s) (execStartBitCapture s) := by
  have h := Steady.refl s
  unfold execStartBitCapture
  repeat' split
  · exact leads_done.2 h
  · exact leads_done.2 h.capture.withLiu
  · exact leads_done.2 h

theorem execStartBitOfAnotherStation_steady : Leads (Steady s) (execStartBitOfAnotherStation s) := by
  have h := Steady.refl s
  unfold execStartBitOfAnotherStation
  split
  · exact leads_done.2 h.withLiu
  · exact leads_done.2 h

theorem execReceivedFrameCompletion_steady {levels : List Level} :
    Leads (Steady s) (execReceivedFrameCompletion levels s) := by
  have h := Steady.refl s
  unfold execReceivedFrameCompletion
  split
  · split
    · exact leads_done.2 h
    · dsimp only
      repeat' split
      · exact leads_done.2 h.countJoinQuiet.betweenFrames.presentCompletion
      · exact leads_done.2 h
      · exact leads_done.2 h.sampleOn
      · exact leads_done.2 h
  · exact leads_done.2 h

theorem execJoinQuiet_steady {n : Nat} : Leads (Steady s) (execJoinQuiet n s) := by
  have h := ((Steady.refl s).countGap (n := n)).withLiu
    (l := { (countGap s n).liu with joinQuiet := (countGap s n).liu.joinQuiet + n })
  unfold execJoinQuiet
  dsimp only
  repeat' split
  · exact leads_done.2 h.enterOnline
  · exact leads_done.2 h
  · exact leads_done.2 (Steady.refl s)

theorem execOwnFrameOutcome_steady {levels : List Level} : Leads (Steady s) (execOwnFrameOutcome levels s) := by
  have h := Steady.refl s
  unfold execOwnFrameOutcome
  repeat' split
  · exact leads_done.2 h
  · exact leads_done.2 h.handleOutcome
  · exact leads_done.2 h
  · exact leads_done.2 h.liuAfterOutcome.handleOutcome
  · exact leads_done.2 h.sampleOn
  · exact leads_done.2 h
  · exact leads_done.2 h

theorem execFaultFound_steady {levels : List Level} : Leads (Steady s) (execFaultFound levels s) := by
  have h := Steady.refl s
  unfold execFaultFound
  repeat' split
  · exact leads_done.2 h
  · exact leads_done.2 h
  · exact leads_done.2 h.senderFault
  · exact leads_done.2 h
  · exact leads_done.2 h.receiverFault
  · exact leads_done.2 h

theorem execLineRecovered_steady {levels : List Level} : Leads (Steady s) (execLineRecovered levels s) := by
  have h := Steady.refl s
  unfold execLineRecovered
  dsimp only
  repeat' split
  · exact leads_done.2 h.countJoinQuiet.withLiu
  · exact leads_done.2 h
  · exact leads_done.2 h.countJoinQuiet.betweenFrames
  · exact leads_done.2 h.countJoinQuiet.withLiu
  · exact leads_done.2 h

theorem execSilentFrameEnd_steady {levels : List Level} : Leads (Steady s) (execSilentFrameEnd levels s) := by
  have h := Steady.refl s
  unfold execSilentFrameEnd
  repeat' split
  · exact leads_done.2 h.countJoinQuiet.betweenFrames
  · exact leads_done.2 h.sampleOn
  · exact leads_done.2 h
  · exact leads_done.2 h

theorem execDuplicateSighting_steady {levels : List Level} : Leads (Steady s) (execDuplicateSighting levels s) := by
  have h := Steady.refl s
  unfold execDuplicateSighting
  split
  · exact leads_done.2 h.setFlag.halt
  · exact leads_done.2 h

theorem execPullReplyTimerExpiry_steady {i : EntryIx} : Leads (Steady s) (execPullReplyTimerExpiry i s) := by
  have h := Steady.refl s
  unfold execPullReplyTimerExpiry
  repeat' split
  · exact leads_done.2 h
  · exact leads_done.2 h.keepPull
  · exact leads_done.2 h.pullUnanswered
  · exact leads_done.2 h

/-- The running out of a timer does what it does where the timer is due, and nothing else. -/
theorem Steady.ifDue {t : State} {now : Time} {x : Timer} (h : Steady s t) :
    Leads (Steady s) (if timerDue now x then done t else done s) := by
  split
  · exact leads_done.2 h
  · exact leads_done.2 (Steady.refl s)

end

/-- But for the five that set up, every command leaves the parameters and the configuration as they are, fixes no
verdict, and does not enter CONFIGURING. -/
theorem exec_steady {c : Instr} {s : State} (hc : setsUp c = false) : Leads (Steady s) (exec c s) := by
  have h := Steady.refl s
  cases c with
  | setStation | setItem | restart | fullReset | frameVerdictPoint => cases hc
  | nop ops => exact leads_done.2 h.withShiftedOut
  | status ops => exact leads_done.2 h.withFlags.withReply
  | nextNotice ops => exact execNextNotice_steady
  | read ops => exact leads_done.2 (onEntry_of (fun _ => h.refuse) fun _ _ => h.withReply)
  | readDelivery ops => exact leads_done.2 (onEntry_of (fun _ => h.refuse) fun _ _ => h.withReply)
  | readRoster ops => exact leads_done.2 h.withReply
  | write ops => exact execWrite_steady
  | hold ops => exact execHold_steady
  | release ops => exact execRelease_steady
  | pull ops => exact execPull_steady
  | claim ops => exact execClaim_steady
  | start ops => exact execStart_steady
  | stop ops => exact execStop_steady
  | rejoin ops => exact execRejoin_steady
  | unknownCommandCode code ops => exact leads_done.2 h.refuse
  | emptyTransaction => exact leads_done.2 h.withShiftedOut
  | stationTimeTick => exact leads_done.2 h.withTime
  | lineFree n => exact execLineFree_steady
  | startBitCapture => exact execStartBitCapture_steady
  | receivedFrameCompletion levels => exact execReceivedFrameCompletion_steady
  | joinQuiet n => exact execJoinQuiet_steady
  | ownFrameOutcome levels => exact execOwnFrameOutcome_steady
  | faultFound levels => exact execFaultFound_steady
  | lineRecovered levels => exact execLineRecovered_steady
  | silentFrameEnd levels => exact execSilentFrameEnd_steady
  | duplicateSighting levels => exact execDuplicateSighting_steady
  | periodTimerExpiry i => exact h.raisePublish.modRt.ifDue
  | inhibitTimerExpiry i => exact h.modRt.ifDue
  | freshnessTimerExpiry i => exact h.modRt.post.requestAutoPull.ifDue
  | holdTimerExpiry i => exact h.modRt.post.ifDue
  | claimTimerExpiry i => exact h.endClaim.ifDue
  | pullReplyTimerExpiry i => exact execPullReplyTimerExpiry_steady
  | silenceTimerExpiry st => exact h.setRecord.orphanAndReport.ifDue
  | ownAnnounceTimerExpiry => exact h.raiseAnnounce.restartAnnounceTimer.ifDue
  | startBitOfAnotherStation => exact execStartBitOfAnotherStation_steady

end Sys2Proof.Machine
end

section
/-! SUPPORT. The commands that configure: what SET-STATION, SET-ITEM, RESTART and full reset leave, and that the
configuration laws are kept (R1, R4, R157, R158). -/

namespace Sys2Proof.Machine

/-! ### The five commands that set up -/

/-- A verdict point leaves all but the verdict and the LIU: the verdict is that on a frame of another station. -/
theorem execFrameVerdictPoint_cases {levels : List Level} {s : State} :
    Leads (fun t => Steady s t ∨ ∃ f, f.source ≠ s.own ∧
      t = { sampleOn s levels .window with verdict := some (verdictOn s f) }) (execFrameVerdictPoint levels s) := by
  have h := Steady.refl s
  unfold execFrameVerdictPoint
  split
  · dsimp only
    split
    · next f _ =>
      split
      · exact leads_done.2 (.inl h)
      · next hf => exact leads_done.2 (.inr ⟨f, hf, rfl⟩)
    · split
      · exact leads_done.2 (.inl h.sampleOn)
      · exact leads_done.2 (.inl h)
  · exact leads_done.2 (.inl h)

/-- SET-STATION is refused or replaces the parameters, in CONFIGURING alone. -/
theorem execSetStation_cases {ops : List Byte} {s : State} :
    Leads (fun t => (∃ st, t = refuse s ops st) ∨ s.lifecycle = .configuring ∧
      ∃ p, t = withReply s ops { s with params := some p } (statusOnly .ok)) (execSetStation ops s) := by
  unfold execSetStation
  split
  · exact leads_done.2 (.inl ⟨_, rfl⟩)
  · split
    · exact leads_done.2 (.inl ⟨_, rfl⟩)
    · next hl =>
      split
      · exact leads_done.2 (.inl ⟨_, rfl⟩)
      · exact leads_done.2 (.inr ⟨not_not.1 hl, _, rfl⟩)

/-- SET-ITEM is refused or stores what its operands name, in CONFIGURING and under a free key alone. -/
theorem execSetItem_cases {ops : List Byte} {s : State} :
    Leads (fun t => (∃ st, t = refuse s ops st) ∨ s.lifecycle = .configuring ∧ ∃ i c, itemOperands ops = some c ∧
      keyTaken s i c = false ∧ t = withReply s ops (storeItem s i c) (itemReply i c)) (execSetItem ops s) := by
  unfold execSetItem
  split
  · exact leads_done.2 (.inl ⟨_, rfl⟩)
  · split
    · split
      · exact leads_done.2 (.inl ⟨_, rfl⟩)
      · split
        · exact leads_done.2 (.inl ⟨_, rfl⟩)
        · next hl =>
          split
          · exact leads_done.2 (.inl ⟨_, rfl⟩)
          · next c hc =>
            split
            · exact leads_done.2 (.inl ⟨_, rfl⟩)
            · next hk => exact leads_done.2 (.inr ⟨not_not.1 hl, _, c, hc, by simpa using hk, rfl⟩)
    · exact leads_done.2 (.inl ⟨_, rfl⟩)

/-! ### What they leave of the configuration -/

theorem storeItem_cfg (s : State) (i j : EntryIx) (c : ItemConfig) :
    (storeItem s i c).cfg j = if j = i then c else s.cfg j := by
  unfold storeItem
  rw [removeNotice_cfg]
  split
  · next h => rw [h, (State.setEntry_self s i _).1]
  · next h => rw [(State.setEntry_ne s _ h).1]

@[simp] theorem clearRuntime_cfg (s : State) (i : EntryIx) : (clearRuntime s).cfg i = s.cfg i :=
  State.mapRt_cfg s (fun _ c _ => resetRuntime c) i

@[simp] theorem clearRuntime_params (s : State) : (clearRuntime s).params = s.params := by simp [clearRuntime]

@[simp] theorem State.reset_cfg (i : EntryIx) : State.reset.cfg i = .unused := by simp [State.reset, State.cfg]

/-- Full reset apart, only SET-STATION touches the parameters and only SET-ITEM the configuration, both in CONFIGURING
alone. -/
theorem exec_config_of_not_configuring {c : Instr} {s : State} (hl : s.lifecycle ≠ .configuring) (hc : c ≠ .fullReset) :
    Leads (fun t => t.params = s.params ∧ ∀ i, t.cfg i = s.cfg i) (exec c s) := by
  have of_steady : ∀ t, Steady s t → t.params = s.params ∧ ∀ i, t.cfg i = s.cfg i := fun t h => ⟨h.params, h.cfg⟩
  by_cases hs : setsUp c = false
  · exact (exec_steady hs).imp of_steady
  cases c with
  | setStation ops =>
    refine execSetStation_cases.imp ?_
    rintro t (⟨st, rfl⟩ | ⟨hc, _⟩)
    · exact of_steady _ (Steady.refl s).refuse
    · exact absurd hc hl
  | setItem ops =>
    refine execSetItem_cases.imp ?_
    rintro t (⟨st, rfl⟩ | ⟨hc, _⟩)
    · exact of_steady _ (Steady.refl s).refuse
    · exact absurd hc hl
  | restart ops => exact leads_done.2 (by simp)
  | fullReset => exact absurd rfl hc
  | frameVerdictPoint levels =>
    have sampled : Steady s (sampleOn s levels .window) := (Steady.refl s).sampleOn
    refine execFrameVerdictPoint_cases.imp ?_
    rintro t (ht | ⟨f, -, rfl⟩)
    · exact of_steady t ht
    · exact ⟨sampled.params, sampled.cfg⟩
  | _ => exact absurd rfl hs

/-- Whatever the lifecycle, a command leaves the configuration, stores one entry, or resets the part. -/
theorem exec_cfg_cases {c : Instr} {s : State} :
    Leads (fun t => (∀ j, t.cfg j = s.cfg j) ∨ (∀ j, t.cfg j = .unused) ∨ ∃ ops i d, itemOperands ops = some d ∧
      keyTaken s i d = false ∧ ∀ j, t.cfg j = if j = i then d else s.cfg j) (exec c s) := by
  by_cases hs : setsUp c = false
  · exact (exec_steady hs).imp fun t h => .inl h.cfg
  cases c with
  | setStation ops =>
    refine execSetStation_cases.imp ?_
    rintro t (⟨st, rfl⟩ | ⟨_, p, rfl⟩)
    · exact .inl fun _ => rfl
    · exact .inl fun _ => rfl
  | setItem ops =>
    refine execSetItem_cases.imp ?_
    rintro t (⟨st, rfl⟩ | ⟨_, i, d, hd, hk, rfl⟩)
    · exact .inl fun _ => rfl
    · exact .inr (.inr ⟨ops, i, d, hd, hk, fun j => storeItem_cfg s i j d⟩)
  | restart ops => exact leads_done.2 (.inl (by simp))
  | fullReset => exact leads_done.2 (.inr (.inl State.reset_cfg))
  | frameVerdictPoint levels =>
    have sampled : Steady s (sampleOn s levels .window) := (Steady.refl s).sampleOn
    refine execFrameVerdictPoint_cases.imp ?_
    rintro t (ht | ⟨f, -, rfl⟩)
    · exact .inl ht.cfg
    · exact .inl sampled.cfg
  | _ => exact absurd rfl hs

/-! ### The laws of the configuration -/

theorem configLaw_unused : configLaw .unused := by
  unfold configLaw; decide

theorem word16At_le (ops : List Byte) (p : Nat) : word16At ops p ≤ 65535 := by
  have h1 := (byteAt ops p).isLt
  have h2 := (byteAt ops (p + 1)).isLt
  unfold word16At
  omega

theorem itemClassOf_ne_system {b : Byte} {cls : FrameClass} (h : itemClassOf b = some cls) : cls ≠ .system := by
  unfold itemClassOf at h
  repeat' split at h
  all_goals cases h <;> decide

/-- What SET-ITEM takes from its operands is in the ranges of R158. -/
theorem itemOperands_configLaw {ops : List Byte} {c : ItemConfig} (h : itemOperands ops = some c) : configLaw c := by
  unfold itemOperands at h
  split at h
  · cases h
  · cases h; exact configLaw_unused
  · next role hused _ =>
    dsimp only at h
    split at h
    · cases h
    · next cls hcls =>
      rw [Option.ite_none_right_eq_some] at h
      obtain ⟨⟨⟨keyLow, keyHigh⟩, length, period, inhibit, attempts⟩, hd⟩ := h
      cases hd
      refine ⟨length, ?_, ?_, ?_, ?_, fun _ => ⟨?_, itemClassOf_ne_system hcls⟩, ?_, fun hu => absurd hu hused⟩
      · dsimp only; split
        · exact word16At_le ops 8
        · omega
      · dsimp only; split
        · next hp => exact inhibit hp
        · omega
      · dsimp only; split
        · exact word16At_le ops 17
        · omega
      · dsimp only
        by_cases hq :
          (if (decide (role = .publisher) || (byteAt ops 7).getLsbD 0) = true then word32At ops 12 else 0) ≠ 0
        · rw [if_pos hq]; exact (attempts hq).2
        · rw [if_neg hq]; omega
      · simp only [BitVec.toNat_ofNat]; omega
      · intro hp; dsimp only at hp ⊢; rw [if_pos hp]; exact period hp

/-- A used entry other than `i` holds another key than the one found free (R1). -/
theorem key_ne_of_keyTaken {s : State} {i j : EntryIx} {c : ItemConfig} (h : keyTaken s i c = false)
    (hc : c.role ≠ .unused) (hj : j ≠ i) (hu : (s.cfg j).role ≠ .unused) : (s.cfg j).key ≠ c.key := by
  intro hk
  have := h
  simp only [keyTaken, hc, ne_eq, not_false_eq_true, decide_true, Bool.true_and, List.any_eq_false,
    List.mem_finRange, forall_const] at this
  exact this j (by simp [hj, hu, hk])

theorem exec_keeps_configLaw {c : Instr} {s : State} (h : ∀ i, configLaw (s.cfg i)) :
    Leads (fun t => ∀ i, configLaw (t.cfg i)) (exec c s) := by
  refine exec_cfg_cases.imp ?_
  rintro t (kept | cleared | ⟨ops, i, d, hd, -, stored⟩) j
  · rw [kept]; exact h j
  · rw [cleared]; exact configLaw_unused
  · rw [stored]
    split
    · exact itemOperands_configLaw hd
    · exact h j

theorem exec_keeps_keyLaw {c : Instr} {s : State} (h : keyLaw s) : Leads keyLaw (exec c s) := by
  refine exec_cfg_cases.imp ?_
  rintro t (kept | cleared | ⟨ops, i, d, -, free, stored⟩) j k
  · simp only [kept]; exact h j k
  · simp only [cleared]; exact fun hu => absurd rfl hu
  · simp only [stored]
    intro hj hk hkey
    by_cases hji : j = i <;> by_cases hki : k = i
    · rw [hji, hki]
    · simp only [hji, hki, if_true, if_false] at hj hk hkey
      exact absurd hkey.symm (key_ne_of_keyTaken free hj hki hk)
    · simp only [hji, hki, if_true, if_false] at hj hk hkey
      exact absurd hkey (key_ne_of_keyTaken free hk hji hj)
    · simp only [hji, hki, if_false] at hj hk hkey
      exact h j k hj hk hkey

/-- The queue is none of the laws' business. -/
theorem keyLaw_withPending {s : State} {q : List Instr} (h : keyLaw s) : keyLaw (s.withPending q) := by
  simpa [keyLaw] using h

/-- Settles O59: of the commands only SET-ITEM and full reset store a configuration part, SET-ITEM in range and under a
free key. -/
theorem configurationIsKept : Obligations.ConfigurationIsKept := by
  refine ⟨fun s t h => ?_, fun s t h => ?_, fun s t hl hq => ?_⟩
  · exact step_leads (P := fun t => ∀ i, configLaw (t.cfg i)) h
      (fun c rest _ => exec_keeps_configLaw (s := s.withPending rest) (by simpa using h)) t
  · exact step_leads h (fun c rest _ => exec_keeps_keyLaw (keyLaw_withPending h)) t
  · refine step_leads (P := fun t => t.params = s.params ∧ ∀ i, t.cfg i = s.cfg i) ⟨rfl, fun _ => rfl⟩
      (fun c rest hp => ?_) t
    have hc : c ≠ .fullReset := fun hc => hq (by rw [hp, hc]; rfl)
    simpa using exec_config_of_not_configuring (s := s.withPending rest) (by simpa using hl) hc

end Sys2Proof.Machine
end

section
/-! SUPPORT. The laws of one entry taken together, with what the Pull Table and the own number ask of it: what they come
to in each role (R7's table read by column), and that each change the blocks make to an entry keeps them. -/

namespace Sys2Proof.Machine

/-! ### The laws of one entry -/

/-- What the Pull Table asks of an entry: `recorded` says that it has a record, `full` that the table has 8 (R12, R95,
R96). -/
def pullEntryLaw (recorded full : Prop) (r : Runtime) : Prop :=
  (recorded → r.role = .subscriber) ∧ (r.pullWanted = true → full ∧ ¬ recorded) ∧ (r.pending.pull = true → recorded)

/-- What the own number asks of an entry, with what it rests on (R4, R11, R109). -/
def originLaw (own : Option Station) (c : ItemConfig) (r : Runtime) : Prop :=
  configLaw c ∧ (∀ y, r.yield = some y → own ≠ some y.target) ∧ mirrorLaw own c r

/-- The laws of one entry: those of `entriesLaw`, its part in the Pull Table's, and, where `m` asks for them, those of
its mirrored value. Where `m` is False this is the entry's part in `tablesLawful`, where it is True in `mirrorsLawful`
(`tables_iff`). -/
def entryLawful (m : Prop) (own : Option Station) (recorded full : Prop) (c : ItemConfig) (r : Runtime) : Prop :=
  (roleLaw c r ∧ presenceLaw r ∧ pendingLaw r ∧ claimLaw r ∧ holdLaw r) ∧ pullEntryLaw recorded full r ∧
    (m → originLaw own c r)

section
variable {m recorded full : Prop} {own : Option Station} {c : ItemConfig} {r : Runtime}

/-! ### Role by role -/

/-- The laws at a PUBLISHER. -/
theorem entryLawful_publisher (hr : r.role = .publisher) : entryLawful m own recorded full c r ↔
    (c.role ≠ .unused ∧ (c.movable = false → c.role = .publisher)) ∧ ¬ recorded ∧
    (r.mirror = none ∧ r.source = none ∧ r.freshTimer = none ∧ r.held = false ∧ r.holdTimer = none) ∧
    (r.yield = none ∧ r.claim = none ∧ r.claimTimer = none ∧ r.pullWanted = false) ∧
    (r.pending.pull = false ∧ r.pending.claim = false ∧ r.pending.yield = false) ∧ (m → configLaw c) := by
  simp only [entryLawful, roleLaw, presenceLaw, pendingLaw, claimLaw, holdLaw, pullEntryLaw, originLaw, mirrorLaw, hr,
    Role.isMirror, Option.isSome_iff_ne_none]
  grind

/-- The laws at a YIELDING entry. -/
theorem entryLawful_yielding (hr : r.role = .yielding) : entryLawful m own recorded full c r ↔
    (c.role ≠ .unused ∧ c.movable = true) ∧ ¬ recorded ∧
    (r.mirror = none ∧ r.source = none ∧ r.freshTimer = none ∧ r.held = false ∧ r.holdTimer = none) ∧
    (r.yield ≠ none ∧ r.claim = none ∧ r.claimTimer = none ∧ r.pullWanted = false) ∧
    (r.periodTimer = none ∧ r.inhibitTimer = none) ∧
    (r.pending.publish = none ∧ r.pending.pull = false ∧ r.pending.claim = false) ∧
    (m → configLaw c ∧ ∀ y, r.yield = some y → own ≠ some y.target) := by
  simp only [entryLawful, roleLaw, presenceLaw, pendingLaw, claimLaw, holdLaw, pullEntryLaw, originLaw, mirrorLaw, hr,
    Role.isMirror, Option.isSome_iff_ne_none]
  grind

/-- The laws at a SUBSCRIBER. -/
theorem entryLawful_subscriber (hr : r.role = .subscriber) : entryLawful m own recorded full c r ↔
    (c.role ≠ .unused ∧ (c.movable = false → c.role ≠ .publisher)) ∧
    (r.mirror ≠ none ∧ (r.source ≠ none ↔ r.mirror ≠ some .empty) ∧ (r.freshTimer ≠ none → r.mirror = some .fresh) ∧
      (r.held = true ↔ r.holdTimer ≠ none)) ∧
    (r.yield = none ∧ r.claim = none ∧ r.claimTimer = none) ∧
    (r.periodTimer = none ∧ r.inhibitTimer = none ∧ r.delivery = none) ∧
    (r.pending.publish = none ∧ r.pending.claim = false ∧ r.pending.yield = false) ∧
    ((r.pullWanted = true → full ∧ ¬ recorded) ∧ (r.pending.pull = true → recorded)) ∧
    (m → configLaw c ∧ mirrorLaw own c r) := by
  simp only [entryLawful, roleLaw, presenceLaw, pendingLaw, claimLaw, holdLaw, pullEntryLaw, originLaw, hr,
    Role.isMirror, Option.isSome_iff_ne_none]
  grind

/-- The laws at a CLAIMING entry. -/
theorem entryLawful_claiming (hr : r.role = .claiming) : entryLawful m own recorded full c r ↔
    (c.role ≠ .unused ∧ c.movable = true) ∧ ¬ recorded ∧
    (r.mirror ≠ none ∧ (r.source ≠ none ↔ r.mirror ≠ some .empty) ∧ r.freshTimer = none ∧
      (r.held = true ↔ r.holdTimer ≠ none)) ∧
    (r.yield = none ∧ r.claim ≠ none ∧ r.claimTimer ≠ none ∧ r.pullWanted = false) ∧
    (r.periodTimer = none ∧ r.inhibitTimer = none ∧ r.delivery = none) ∧
    (r.pending.publish = none ∧ r.pending.pull = false ∧ r.pending.yield = false) ∧
    (m → configLaw c ∧ mirrorLaw own c r) := by
  simp only [entryLawful, roleLaw, presenceLaw, pendingLaw, claimLaw, holdLaw, pullEntryLaw, originLaw, hr,
    Role.isMirror, Option.isSome_iff_ne_none]
  grind

/-- The laws at an UNUSED entry. -/
theorem entryLawful_unused (hr : r.role = .unused) : entryLawful m own recorded full c r ↔
    c.role = .unused ∧ ¬ recorded ∧
    (r.mirror = none ∧ r.source = none ∧ r.freshTimer = none ∧ r.held = false ∧ r.holdTimer = none) ∧
    (r.yield = none ∧ r.claim = none ∧ r.claimTimer = none ∧ r.pullWanted = false) ∧
    (r.periodTimer = none ∧ r.inhibitTimer = none ∧ r.delivery = none) ∧
    (r.pending.publish = none ∧ r.pending.pull = false ∧ r.pending.claim = false ∧ r.pending.yield = false) ∧
    (m → configLaw c) := by
  simp only [entryLawful, roleLaw, presenceLaw, pendingLaw, claimLaw, holdLaw, pullEntryLaw, originLaw, mirrorLaw, hr,
    Role.isMirror, Option.isSome_iff_ne_none]
  grind

/-! ### What a field tells of the role -/

theorem entryLawful.subscriber_of_recorded (h : entryLawful m own recorded full c r) (hrec : recorded) :
    r.role = .subscriber := by
  obtain ⟨-, ⟨role, -⟩, -⟩ := h
  exact role hrec

theorem entryLawful.subscriber_of_freshTimer (h : entryLawful m own recorded full c r) (ht : r.freshTimer ≠ none) :
    r.role = .subscriber := by
  obtain ⟨⟨-, ⟨-, -, -, -, -, fresh, -⟩, -⟩, -⟩ := h
  exact (fresh (Option.isSome_iff_ne_none.2 ht)).1

theorem entryLawful.subscriber_of_wanted (h : entryLawful m own recorded full c r) (hw : r.pullWanted = true) :
    r.role = .subscriber := by
  obtain ⟨⟨-, ⟨-, -, -, -, wanted, -⟩, -⟩, -⟩ := h
  exact wanted hw

theorem entryLawful.publisher_of_periodTimer (h : entryLawful m own recorded full c r) (ht : r.periodTimer ≠ none) :
    r.role = .publisher := by
  obtain ⟨⟨-, ⟨-, -, -, -, -, -, period, -⟩, -⟩, -⟩ := h
  exact period (Option.isSome_iff_ne_none.2 ht)

theorem entryLawful.claiming_of_claimTimer (h : entryLawful m own recorded full c r) (ht : r.claimTimer ≠ none) :
    r.role = .claiming := by
  obtain ⟨⟨-, -, -, claim, -⟩, -⟩ := h
  exact claim.2 (Option.isSome_iff_ne_none.2 ht)

/-- Only a movable entry is CLAIMING or YIELDING (R8). -/
theorem entryLawful.movable (h : entryLawful m own recorded full c r) (hr : r.role = .claiming ∨ r.role = .yielding) :
    c.movable = true := by
  obtain ⟨⟨⟨-, fixed⟩, -⟩, -⟩ := h
  by_contra hm
  obtain ⟨claiming, yielding, -⟩ := fixed (by simpa using hm)
  exact hr.elim claiming yielding

/-- A PULL is pending only with a record (R12). -/
theorem entryLawful.recorded_of_request (h : entryLawful m own recorded full c r) (hp : r.pending.pull = true) :
    recorded := by
  obtain ⟨-, ⟨-, -, request⟩, -⟩ := h
  exact request hp

/-- What the own number asks of the entry, where it is asked. -/
theorem entryLawful.origin (h : entryLawful m own recorded full c r) (hm : m) : originLaw own c r := by
  obtain ⟨-, -, origin⟩ := h
  exact origin hm

/-- An entry waits only while the table is full and it has no record (R96). -/
theorem entryLawful.unwanted (h : entryLawful m own recorded full c r) (hw : r.pullWanted = true) :
    full ∧ ¬ recorded := by
  obtain ⟨-, ⟨-, wanted, -⟩, -⟩ := h
  exact wanted hw

/-! ### Where the laws do not look -/

/-- The laws do not look at the deferred reasons. -/
theorem entryLawful.defer (h : entryLawful m own recorded full c r) (d : Option ReasonSet) :
    entryLawful m own recorded full c { r with deferred := d } := h

/-- At a PUBLISHER they leave the value, the counters, the publish request, its timers and the delivery free. -/
theorem entryLawful.publisherChange (h : entryLawful m own recorded full c r) (hr : r.role = .publisher)
    {x : Vector Byte 12} {g v : Byte} {n : Option Nat} {period inhibit : Timer} {d : Option Delivery} :
    entryLawful m own recorded full c { r with
      storage := x, generation := g, version := v, periodTimer := period, inhibitTimer := inhibit, delivery := d
      pending := { r.pending with publish := n } } := by
  refine (entryLawful_publisher ?_).2 ((entryLawful_publisher hr).1 h)
  exact hr

/-- A delivery record that is there may change (R86, R87). -/
theorem entryLawful.accountDelivery (h : entryLawful m own recorded full c r) (hd : r.delivery ≠ none) (d : Delivery) :
    entryLawful m own recorded full c { r with delivery := some d } := by
  obtain ⟨⟨role, ⟨mirror, source, yield, claim, wanted, fresh, period, inhibit, delivery⟩, rest⟩, others⟩ := h
  exact ⟨⟨role, ⟨mirror, source, yield, claim, wanted, fresh, period, inhibit,
    fun _ => delivery (Option.isSome_iff_ne_none.2 hd)⟩, rest⟩, others⟩

/-! ### What may be taken away whatever the role -/

theorem entryLawful.dropPublish (h : entryLawful m own recorded full c r) :
    entryLawful m own recorded full c { r with pending := { r.pending with publish := none } } := by
  obtain ⟨⟨role, presence, ⟨-, requests⟩, timers⟩, others⟩ := h
  exact ⟨⟨role, presence, ⟨nofun, requests⟩, timers⟩, others⟩

theorem entryLawful.dropYield (h : entryLawful m own recorded full c r) :
    entryLawful m own recorded full c { r with pending := { r.pending with yield := false } } := by
  obtain ⟨⟨role, presence, ⟨publish, -, requests⟩, timers⟩, others⟩ := h
  exact ⟨⟨role, presence, ⟨publish, nofun, requests⟩, timers⟩, others⟩

theorem entryLawful.dropPull (h : entryLawful m own recorded full c r) :
    entryLawful m own recorded full c { r with pending := { r.pending with pull := false } } := by
  obtain ⟨⟨role, presence, ⟨publish, yield, claim, -⟩, timers⟩, ⟨held, wanted, -⟩, others⟩ := h
  exact ⟨⟨role, presence, ⟨publish, yield, claim, nofun⟩, timers⟩, ⟨held, wanted, nofun⟩, others⟩

/-- A CLAIM leaves its set and its part is marked (R113). -/
theorem entryLawful.dropClaim (h : entryLawful m own recorded full c r) (f : ClaimPart → ClaimPart) :
    entryLawful m own recorded full c { r with
      pending := { r.pending with claim := false }, claim := r.claim.map f } := by
  obtain ⟨⟨role, ⟨mirror, source, yielding, claiming, presence⟩, ⟨publish, yield, -, pull⟩, timers⟩, others⟩ := h
  exact ⟨⟨role, ⟨mirror, source, yielding, by simpa using claiming, presence⟩, ⟨publish, yield, nofun, pull⟩, timers⟩,
    others⟩

theorem entryLawful.stopPeriod (h : entryLawful m own recorded full c r) :
    entryLawful m own recorded full c { r with periodTimer := none } := by
  obtain ⟨⟨role, ⟨mirror, source, yielding, claiming, wanted, fresh, -, presence⟩, timers⟩, others⟩ := h
  exact ⟨⟨role, ⟨mirror, source, yielding, claiming, wanted, fresh, nofun, presence⟩, timers⟩, others⟩

theorem entryLawful.stopInhibit (h : entryLawful m own recorded full c r) :
    entryLawful m own recorded full c { r with inhibitTimer := none } := by
  obtain ⟨⟨role, ⟨mirror, source, yielding, claiming, wanted, fresh, period, -, delivery⟩, timers⟩, others⟩ := h
  exact ⟨⟨role, ⟨mirror, source, yielding, claiming, wanted, fresh, period, nofun, delivery⟩, timers⟩, others⟩

theorem entryLawful.unhold (h : entryLawful m own recorded full c r) :
    entryLawful m own recorded full c { r with held := false, holdTimer := none } := by
  obtain ⟨⟨role, presence, requests, claim, -⟩, others⟩ := h
  exact ⟨⟨role, presence, requests, claim, by simp [holdLaw]⟩, others⟩

/-- Entry to HALTED ends the claim, the hold and the timers (R165). -/
theorem entryLawful.halt (h : entryLawful m own recorded full c r) :
    entryLawful m own recorded full c (haltRuntime r) := by
  unfold haltRuntime
  cases hr : r.role with
  | unused =>
    rw [entryLawful_unused hr] at h
    refine (entryLawful_unused (by simp)).2 ?_
    grind
  | publisher =>
    rw [entryLawful_publisher hr] at h
    refine (entryLawful_publisher (by simp)).2 ?_
    grind
  | subscriber =>
    rw [entryLawful_subscriber hr] at h
    refine (entryLawful_subscriber (by simp)).2 ?_
    grind [mirrorLaw, valueOf]
  | yielding =>
    rw [entryLawful_yielding hr] at h
    refine (entryLawful_yielding (by simp)).2 ?_
    grind
  | claiming =>
    rw [entryLawful_claiming hr] at h
    refine (entryLawful_subscriber (by simp)).2 ?_
    grind [mirrorLaw, valueOf]

/-! ### In a mirror role -/

theorem entryLawful.hold (h : entryLawful m own recorded full c r) (hr : r.role.isMirror = true) (t : Running) :
    entryLawful m own recorded full c { r with held := true, holdTimer := some t } := by
  obtain ⟨⟨role, presence, requests, claim, -⟩, others⟩ := h
  exact ⟨⟨role, presence, requests, claim, by simp [holdLaw, hr]⟩, others⟩

/-- An entry that takes a value, or sees its value confirmed, is a FRESH mirror of another station (R53, R54, R111). -/
theorem entryLawful.renew (h : entryLawful m own recorded full c r) (hr : r.role.isMirror = true)
    {x : Vector Byte 12} {g v : Byte} {source : Origin} {now : Time} (hs : m → own ≠ some source.station) :
    entryLawful m own recorded full c { r with
      storage := x, generation := g, version := v, source := some source, mirror := some .fresh
      freshTimer := renewedFreshness now c r, claim := freshClaim r.claim, pullWanted := false } := by
  rcases (isMirror_iff r.role).1 hr with hr | hr
  · rw [entryLawful_subscriber hr] at h
    refine (entryLawful_subscriber (by exact hr)).2 ?_
    grind [mirrorLaw, freshClaim]
  · rw [entryLawful_claiming hr] at h
    refine (entryLawful_claiming (by exact hr)).2 ?_
    have claim : freshClaim r.claim ≠ none ↔ r.claim ≠ none := by simp [freshClaim]
    grind [mirrorLaw, renewedFreshness]

/-- A mirror whose freshness timer runs goes STALE (R58). -/
theorem entryLawful.goStale (h : entryLawful m own recorded full c r) (ht : r.freshTimer ≠ none) :
    entryLawful m own recorded full c { r with mirror := some .stale, freshTimer := none } := by
  have hr := h.subscriber_of_freshTimer ht
  rw [entryLawful_subscriber hr] at h
  refine (entryLawful_subscriber (by exact hr)).2 ?_
  grind [mirrorLaw]

/-- An orphaning reaches FRESH and STALE mirrors alone (R134). -/
theorem entryLawful.orphan {st : Station} (h : entryLawful m own recorded full c r) (hh : orphanHits st r = true) :
    entryLawful m own recorded full c (orphanRuntime r) := by
  simp only [orphanHits, Bool.and_eq_true, Bool.or_eq_true, decide_eq_true_eq] at hh
  obtain ⟨⟨hr, hm⟩, -⟩ := hh
  rcases (isMirror_iff r.role).1 hr with hr | hr
  · rw [entryLawful_subscriber hr] at h
    refine (entryLawful_subscriber (by exact hr)).2 ?_
    grind [mirrorLaw, orphanRuntime]
  · rw [entryLawful_claiming hr] at h
    refine (entryLawful_claiming (by exact hr)).2 ?_
    have claim : (orphanRuntime r).claim ≠ none ↔ r.claim ≠ none := by simp [orphanRuntime]
    grind [mirrorLaw, orphanRuntime]

/-! ### The Pull Table -/

/-- The laws look at the entry's own record, and at a full table only where the entry waits for a record. -/
theorem entryLawful.retable {recorded' full' : Prop} (h : entryLawful m own recorded full c r)
    (hr : recorded' ↔ recorded) (hf : r.pullWanted = true → full') : entryLawful m own recorded' full' c r := by
  obtain ⟨laws, ⟨held, wanted, pull⟩, mirror⟩ := h
  exact ⟨laws, ⟨fun x => held (hr.1 x), fun x => ⟨hf x, fun y => (wanted x).2 (hr.1 y)⟩, fun x => hr.2 (pull x)⟩,
    mirror⟩

/-- A SUBSCRIBER gets a record with its PULL (R95, R99). -/
theorem entryLawful.record {recorded' full' : Prop} (h : entryLawful m own recorded full c r)
    (hr : r.role = .subscriber) (hw : r.pullWanted = false) (hrec : recorded') :
    entryLawful m own recorded' full' c { r with pending := { r.pending with pull := true } } := by
  rw [entryLawful_subscriber hr] at h
  refine (entryLawful_subscriber (by exact hr)).2 ?_
  grind [mirrorLaw, valueOf]

/-- A SUBSCRIBER without a record waits for one while the table is full (R98). -/
theorem entryLawful.want (h : entryLawful m own recorded full c r) (hr : r.role = .subscriber) (hf : full)
    (hrec : ¬ recorded) : entryLawful m own recorded full c { r with pullWanted := true } := by
  rw [entryLawful_subscriber hr] at h
  refine (entryLawful_subscriber (by exact hr)).2 ?_
  grind [mirrorLaw, valueOf]

theorem entryLawful.unwant (h : entryLawful m own recorded full c r) :
    entryLawful m own recorded full c { r with pullWanted := false } := by
  obtain ⟨⟨role, ⟨mirror, source, yielding, claiming, -, presence⟩, timers⟩, ⟨held, -, pull⟩, others⟩ := h
  exact ⟨⟨role, ⟨mirror, source, yielding, claiming, nofun, presence⟩, timers⟩, ⟨held, nofun, pull⟩, others⟩

/-- An entry loses its record with its PULL; it waits for none (R96). -/
theorem entryLawful.unrecord (h : entryLawful m own recorded full c r) (hrec : recorded) :
    entryLawful m own False full c { r with pending := { r.pending with pull := false } } := by
  obtain ⟨⟨role, presence, ⟨publish, yield, claim, -⟩, timers⟩, ⟨-, wanted, -⟩, others⟩ := h
  exact ⟨⟨role, presence, ⟨publish, yield, claim, nofun⟩, timers⟩,
    ⟨nofun, fun hw => absurd hrec (wanted hw).2, nofun⟩, others⟩

/-! ### Changes of role (section 1.6) -/

theorem entryLawful.takeClaim (h : entryLawful m own recorded full c r) (hr : r.role = .subscriber)
    (hm : c.movable = true) (hrec : ¬ recorded) {p : ClaimPart} {t : Running} :
    entryLawful m own recorded full c { r with
      role := .claiming, claim := some p, claimTimer := some t, freshTimer := none, pullWanted := false
      pending := { r.pending with claim := true } } := by
  rw [entryLawful_subscriber hr] at h
  rw [entryLawful_claiming rfl]
  grind [mirrorLaw, valueOf]

theorem entryLawful.endClaim (h : entryLawful m own recorded full c r) (hr : r.role = .claiming) {t : Timer} :
    entryLawful m own recorded full c { r with
      role := .subscriber, claim := none, claimTimer := none, pullWanted := false
      pending := { r.pending with claim := false }
      freshTimer := if r.mirror = some .fresh then t else r.freshTimer } := by
  rw [entryLawful_claiming hr] at h
  rw [entryLawful_subscriber rfl]
  grind [mirrorLaw, valueOf]

theorem entryLawful.enterPublisher (h : entryLawful m own recorded full c r) (hr : r.role.isMirror = true)
    (hm : c.movable = true) (hrec : ¬ recorded) {g v : Byte} {x : Vector Byte 12} {period : Timer} :
    entryLawful m own recorded full c { r with
      role := .publisher, mirror := none, source := none, freshTimer := none, held := false, holdTimer := none
      claim := none, claimTimer := none, pullWanted := false, generation := g, version := v, storage := x
      delivery := none, inhibitTimer := none, periodTimer := period
      pending := { PendingSet.none with publish := some 0 } } := by
  rw [entryLawful_publisher rfl]
  rcases (isMirror_iff r.role).1 hr with hr | hr
  · rw [entryLawful_subscriber hr] at h
    grind [PendingSet.none]
  · rw [entryLawful_claiming hr] at h
    grind [PendingSet.none]

theorem entryLawful.enterYielding (h : entryLawful m own recorded full c r) (hr : r.role = .publisher)
    (hm : c.movable = true) {y : YieldPart} (hy : m → own ≠ some y.target) :
    entryLawful m own recorded full c { r with
      role := .yielding, yield := some y, periodTimer := none, inhibitTimer := none
      pending := { r.pending with publish := none, yield := true } } := by
  rw [entryLawful_publisher hr] at h
  rw [entryLawful_yielding rfl]
  grind

theorem entryLawful.failYield (h : entryLawful m own recorded full c r) (hr : r.role = .yielding) {period : Timer} :
    entryLawful m own recorded full c { r with
      role := .publisher, yield := none, periodTimer := period
      pending := { r.pending with publish := some 0, yield := false } } := by
  rw [entryLawful_yielding hr] at h
  rw [entryLawful_publisher rfl]
  grind

theorem entryLawful.enterMirror (h : entryLawful m own recorded full c r)
    (hr : r.role = .publisher ∨ r.role = .yielding) (hm : c.movable = true) {source : Origin} {g v : Byte}
    {x : Vector Byte 12} {fresh : Timer} (hs : m → own ≠ some source.station) :
    entryLawful m own recorded full c { r with
      role := .subscriber, mirror := some .fresh, source := some source, generation := g, version := v, storage := x
      freshTimer := fresh, pending := { r.pending with publish := none, yield := false }, yield := none
      periodTimer := none, inhibitTimer := none, delivery := none, held := false, holdTimer := none
      pullWanted := false } := by
  rw [entryLawful_subscriber rfl]
  rcases hr with hr | hr
  · rw [entryLawful_publisher hr] at h
    grind [mirrorLaw]
  · rw [entryLawful_yielding hr] at h
    grind [mirrorLaw]

/-! ### Within CLAIMING and YIELDING -/

/-- A CLAIMING entry keeps a claim part, and its CLAIM may be pending (R113, R114). -/
theorem entryLawful.claimChange (h : entryLawful m own recorded full c r) (hr : r.role = .claiming) {p : ClaimPart}
    {b : Bool} : entryLawful m own recorded full c { r with
      claim := some p, pending := { r.pending with claim := b } } := by
  rw [entryLawful_claiming hr] at h
  refine (entryLawful_claiming (by exact hr)).2 ?_
  grind [mirrorLaw, valueOf]

/-- A YIELDING entry keeps its target, and its YIELD may be pending (R119). -/
theorem entryLawful.keepYield (h : entryLawful m own recorded full c r) (hr : r.role = .yielding) (n : Nat) :
    entryLawful m own recorded full c { r with
      pending := { r.pending with yield := true }, yield := r.yield.map fun y => { y with attempts := n } } := by
  rw [entryLawful_yielding hr] at h
  refine (entryLawful_yielding (by exact hr)).2 ?_
  cases hy : r.yield with
  | none => simp [hy] at h
  | some y => simp_all

/-! ### Reset values (R19) -/

theorem entryLawful.reset (hc : m → configLaw c) : entryLawful m own False full c (resetRuntime c) := by
  unfold resetRuntime
  split
  · next hr =>
    rw [entryLawful_unused rfl]
    exact ⟨hr, by simp, by simp [Runtime.unused], by simp [Runtime.unused], by simp [Runtime.unused],
      by simp [Runtime.unused, PendingSet.none], hc⟩
  · next hr =>
    rw [entryLawful_publisher rfl]
    simpa [Runtime.unused, PendingSet.none, hr] using hc
  · next hr =>
    rw [entryLawful_subscriber rfl]
    have zero : m → valueOf c { Runtime.unused with role := .subscriber, mirror := some .empty }
        = List.replicate c.length 0 := fun hm => by
      simp only [valueOf, Runtime.unused, Vector.toList_replicate, List.take_replicate, Nat.min_eq_left (hc hm).1]
    simp only [mirrorLaw]
    grind [Runtime.unused, PendingSet.none]

end

end Sys2Proof.Machine
end

section
/-! SUPPORT. The Item Table and the Pull Table keep their laws under every operation of the blocks: first the shared
operations, then what is done at completion, at an outcome and at a change of lifecycle. -/

namespace Sys2Proof.Machine

/-! ### The laws of both tables -/

/-- The own number, once set. -/
def ownNumber (s : State) : Option Station := s.params.map (·.station)

/-- Whether entry `i` has a Pull Table record. -/
def recordedIn (s : State) (i : EntryIx) : Prop := i ∈ s.pulls.map (·.entry)

/-- The Item Table and the Pull Table keep their laws; where `m`, mirrored values do as well. -/
structure Tables (m : Prop) (s : State) : Prop where
  count : s.pulls.length ≤ 8
  nodup : (s.pulls.map (·.entry)).Nodup
  entry : ∀ i, entryLawful m (ownNumber s) (recordedIn s i) (s.pulls.length = 8) (s.cfg i) (s.rt i)

theorem recordedIn_iff (s : State) (i : EntryIx) : recordedIn s i ↔ (findPull s i).isSome = true := by
  simp [recordedIn, findPull_isSome]

/-- What `Tables` comes to in the words of Safety. -/
theorem tables_iff (m : Prop) (s : State) : Tables m s ↔ entriesLaw s ∧ pullTableLaw s ∧
    (m → targetLaw s ∧ ∀ i, configLaw (s.cfg i) ∧ mirrorLaw (ownNumber s) (s.cfg i) (s.rt i)) := by
  have target : targetLaw s ↔ ∀ i y, (s.rt i).yield = some y → ownNumber s ≠ some y.target := by
    unfold targetLaw ownNumber
    cases s.params with
    | none => simp
    | some p => simp [eq_comm]
  rw [target]
  constructor
  · rintro ⟨count, nodup, entry⟩
    refine ⟨fun i => ?_, ⟨⟨count, nodup, fun p hp => ?_⟩, fun i => (entry i).unwanted,
      fun i => (entry i).recorded_of_request⟩, fun hm => ⟨fun i => ?_, fun i => ?_⟩⟩
    · obtain ⟨laws, -⟩ := entry i
      exact laws
    · exact (entry p.entry).subscriber_of_recorded (List.mem_map_of_mem hp)
    · obtain ⟨-, targets, -⟩ := (entry i).origin hm
      exact targets
    · obtain ⟨config, -, mirror⟩ := (entry i).origin hm
      exact ⟨config, mirror⟩
  · rintro ⟨entries, ⟨⟨count, nodup, role⟩, wanted, request⟩, mirrors⟩
    refine ⟨count, nodup, fun i => ⟨entries i, ⟨fun hr => ?_, wanted i, request i⟩, fun hm => ?_⟩⟩
    · obtain ⟨p, hp, rfl⟩ := List.mem_map.1 hr
      exact role p hp
    · obtain ⟨targets, configs⟩ := mirrors hm
      exact ⟨(configs i).1, targets i, (configs i).2⟩

section
variable {m : Prop} {s t : State}

/-! ### States with the same tables, and one entry changed -/

/-- The table keeps its records, and each entry its laws. -/
theorem Tables.of_entries (h : Tables m s) (params : t.params = s.params)
    (pulls : t.pulls.map (·.entry) = s.pulls.map (·.entry))
    (entry : ∀ i, entryLawful m (ownNumber s) (recordedIn s i) (s.pulls.length = 8) (s.cfg i) (s.rt i) →
      entryLawful m (ownNumber s) (recordedIn s i) (s.pulls.length = 8) (t.cfg i) (t.rt i)) : Tables m t := by
  have length : t.pulls.length = s.pulls.length := by simpa using congrArg List.length pulls
  refine ⟨length ▸ h.count, pulls ▸ h.nodup, fun i => ?_⟩
  unfold ownNumber recordedIn at *
  rw [params, pulls, length]
  exact entry i (h.entry i)

theorem Tables.of_records (h : Tables m s) (params : t.params = s.params) (entries : t.entries = s.entries)
    (pulls : t.pulls.map (·.entry) = s.pulls.map (·.entry)) : Tables m t :=
  h.of_entries params pulls fun i hi => by rw [State.cfg_congr entries, State.rt_congr entries]; exact hi

theorem Tables.of_eq (h : Tables m s) (params : t.params = s.params) (entries : t.entries = s.entries)
    (pulls : t.pulls = s.pulls) : Tables m t := h.of_records params entries (by rw [pulls])

/-- Deferred reasons are none of the laws' business. -/
theorem Tables.of_defer (h : Tables m s) (params : t.params = s.params) (cfg : ∀ i, t.cfg i = s.cfg i)
    (rt : ∀ i, t.rt i = { s.rt i with deferred := (t.rt i).deferred }) (pulls : t.pulls = s.pulls) : Tables m t :=
  h.of_entries params (by rw [pulls]) fun i hi => by rw [cfg, rt]; exact hi.defer _

theorem Tables.modRt {f : Runtime → Runtime} {i : EntryIx} (h : Tables m s)
    (hi : entryLawful m (ownNumber s) (recordedIn s i) (s.pulls.length = 8) (s.cfg i) (s.rt i) →
      entryLawful m (ownNumber s) (recordedIn s i) (s.pulls.length = 8) (s.cfg i) (f (s.rt i))) :
    Tables m (s.modRt i f) := by
  refine h.of_entries (by simp) (by simp) fun j hj => ?_
  rw [State.modRt_cfg, State.modRt_rt]
  split
  · next hji => subst hji; exact hi hj
  · exact hj

theorem Tables.mapRt {f : EntryIx → ItemConfig → Runtime → Runtime} (h : Tables m s)
    (hf : ∀ i, entryLawful m (ownNumber s) (recordedIn s i) (s.pulls.length = 8) (s.cfg i) (s.rt i) →
      entryLawful m (ownNumber s) (recordedIn s i) (s.pulls.length = 8) (s.cfg i) (f i (s.cfg i) (s.rt i))) :
    Tables m (s.mapRt f) :=
  h.of_entries (by simp) (by simp) fun i hi => by rw [State.mapRt_cfg, State.mapRt_rt]; exact hf i hi

/-! ### Posting, requests and records -/

theorem Tables.post (h : Tables m s) {i : EntryIx} {rs : ReasonSet} : Tables m (post s i rs) :=
  h.of_defer (by simp) (by simp) (fun j => post_rt s i j rs) (by simp)

theorem Tables.refillNotices (h : Tables m s) : Tables m (refillNotices s) :=
  h.of_defer (by simp) (by simp) (refillNotices_rt s) (by simp)

theorem Tables.withReply (h : Tables m s) {u : State} {ops : List Byte} {r : List Byte} :
    Tables m (withReply u ops s r) := h.of_eq rfl rfl rfl

theorem Tables.refuse (h : Tables m s) {ops : List Byte} {st : Status} : Tables m (refuse s ops st) := h.withReply

theorem Tables.raisePublish (h : Tables m s) {i : EntryIx} : Tables m (raisePublish s i) := by
  refine h.modRt fun hi => ?_
  split
  · next hr => exact hi.publisherChange hr
  · exact hi

theorem Tables.modPull (h : Tables m s) {i : EntryIx} {f : PullRecord → PullRecord} (hf : ∀ p, (f p).entry = p.entry) :
    Tables m (modPull s i f) := by
  refine h.of_entries (by simp) ?_ fun j hj => by simpa using hj
  unfold Machine.modPull
  rw [List.map_map]
  refine List.map_congr_left fun p _ => ?_
  simp only [Function.comp]
  split
  · exact hf p
  · rfl

/-! ### The Pull Table (R95 to R98) -/

@[simp] theorem addPull_pulls (s : State) (i : EntryIx) :
    (addPull s i).pulls = s.pulls ++ [⟨i, .waiting, 0, none, false, false⟩] := by simp [addPull, raisePull]

/-- The lowest entry with a property has it. -/
theorem lowestEntry_spec {p : EntryIx → Bool} {i : EntryIx} (h : lowestEntry p = some i) : p i = true :=
  List.find?_some h

theorem recordedIn_addPull (s : State) (i j : EntryIx) : recordedIn (addPull s i) j ↔ recordedIn s j ∨ j = i := by
  simp [recordedIn]

/-- A record for a SUBSCRIBER that has none and waits for none. -/
theorem tables_addPull {i : EntryIx} (count : s.pulls.length < 8) (nodup : (s.pulls.map (·.entry)).Nodup)
    (hi : ¬ recordedIn s i) (hr : (s.rt i).role = .subscriber) (hw : (s.rt i).pullWanted = false)
    (entry : ∀ j, entryLawful m (ownNumber s) (recordedIn s j) (s.pulls.length + 1 = 8) (s.cfg j) (s.rt j)) :
    Tables m (addPull s i) := by
  have own : ownNumber (addPull s i) = ownNumber s := by simp [ownNumber]
  have length : (addPull s i).pulls.length = s.pulls.length + 1 := by simp
  refine ⟨by omega, ?_, fun j => ?_⟩
  · rw [addPull_pulls, List.map_append, List.nodup_append]
    refine ⟨nodup, by simp, ?_⟩
    rintro a ha b hb rfl
    cases List.mem_singleton.1 hb
    exact hi ha
  · rw [own, length, addPull_cfg]
    by_cases hj : j = i
    · subst hj
      have rt : (addPull s j).rt j = { s.rt j with pending := { (s.rt j).pending with pull := true } }  :=
        State.modRt_rt_self _ j _
      rw [rt]
      exact (entry j).record hr hw ((recordedIn_addPull s j j).2 (.inr rfl))
    · have rt : (addPull s i).rt j = s.rt j := State.modRt_rt_ne _ _ hj
      rw [rt]
      exact (entry j).retable ((recordedIn_addPull s i j).trans (or_iff_left hj)) fun hwj => ((entry j).unwanted hwj).1

/-- The refill, after the removal of a record from a table that was full if any entry waited. -/
theorem tables_refillPulls (count : s.pulls.length < 8) (nodup : (s.pulls.map (·.entry)).Nodup)
    (entry : ∀ j, entryLawful m (ownNumber s) (recordedIn s j) (s.pulls.length + 1 = 8) (s.cfg j) (s.rt j)) :
    Tables m (refillPulls s) := by
  unfold refillPulls
  split
  · next unwanted =>
    have idle := lowestEntry_eq_none.1 unwanted
    exact ⟨by omega, nodup, fun j => (entry j).retable Iff.rfl fun hw => by simp [idle j] at hw⟩
  · next i found =>
    have hw : (s.rt i).pullWanted = true := lowestEntry_spec found
    refine tables_addPull (by simpa using count) (by simpa using nodup)
      (by simpa [recordedIn] using ((entry i).unwanted hw).2) (by simpa using (entry i).subscriber_of_wanted hw) (by simp) fun j => ?_
    rw [State.modRt_cfg, State.modRt_rt]
    simp only [ownNumber, recordedIn, State.modRt_params, State.modRt_pulls]
    split
    · exact (entry j).unwant
    · exact entry j

/-- The table without the record of entry `i`. -/
theorem pulls_erase (nodup : (s.pulls.map (·.entry)).Nodup) (i : EntryIx) :
    (s.pulls.filter fun p => !decide (p.entry = i)).map (·.entry) = (s.pulls.map (·.entry)).erase i := by
  rw [nodup.erase_eq_filter, List.filter_map]
  exact congrArg _ (List.filter_congr fun p _ => by simp [bne, beq_eq_decide])

theorem Tables.removePull (h : Tables m s) {i : EntryIx} : Tables m (removePull s i) := by
  unfold Machine.removePull
  split
  · next hf =>
    have hi : recordedIn s i := (recordedIn_iff s i).2 hf
    have pulls := pulls_erase h.nodup i
    have length : (s.pulls.filter fun p => !decide (p.entry = i)).length + 1 = s.pulls.length := by
      have := congrArg List.length pulls
      rw [List.length_map, List.length_erase_of_mem hi, List.length_map] at this
      have := List.length_pos_of_mem hi
      rw [List.length_map] at this
      omega
    have count := h.count
    refine tables_refillPulls (by simp only [State.modRt_pulls]; omega) ?_ fun j => ?_
    · simp only [State.modRt_pulls]
      rw [pulls]
      exact h.nodup.erase i
    · simp only [State.modRt_cfg, State.modRt_rt, ownNumber, recordedIn, State.modRt_params, State.modRt_pulls, pulls,
        length]
      by_cases hj : j = i
      · rw [if_pos hj]
        subst hj
        exact ((h.entry j).unrecord hi).retable (by simpa using h.nodup.not_mem_erase) fun hw =>
          ((h.entry j).unwanted hw).1
      · rw [if_neg hj]
        exact (h.entry j).retable (List.mem_erase_of_ne hj) fun hw => ((h.entry j).unwanted hw).1
  · exact h

/-- After the removal the entry has no record: the refill goes to another. -/
theorem Tables.not_recorded (h : Tables m s) (i : EntryIx) : ¬ recordedIn (Machine.removePull s i) i := by
  unfold Machine.removePull
  split
  · next hf =>
    have hi : recordedIn s i := (recordedIn_iff s i).2 hf
    have idle : ¬ (s.rt i).pullWanted = true := fun hw => ((h.entry i).unwanted hw).2 hi
    unfold refillPulls
    split
    · simp [recordedIn]
    · next j hw =>
      have hw := lowestEntry_spec hw
      rw [recordedIn_addPull]
      rintro (hr | rfl)
      · exact absurd hr (by simp [recordedIn])
      · rw [State.modRt_rt_self] at hw; exact idle hw
  · next hf => exact fun hr => hf ((recordedIn_iff s i).1 hr)

theorem Tables.takeAutoPull (h : Tables m s) {i : EntryIx} : Tables m (takeAutoPull s i) := by
  unfold Machine.takeAutoPull
  split
  · next hr =>
    split
    · exact h
    · next hf =>
      have hi : ¬ recordedIn s i := fun hi => hf ((recordedIn_iff s i).1 hi)
      split
      · next count =>
        have idle : ∀ j, ¬ (s.rt j).pullWanted = true := fun j hw => by have := ((h.entry j).unwanted hw).1; omega
        exact tables_addPull count h.nodup hi hr (by simpa using idle i) fun j =>
          (h.entry j).retable Iff.rfl fun hw => absurd hw (idle j)
      · next count =>
        have := h.count
        exact h.modRt fun hl => hl.want hr (by omega) hi
  · exact h

theorem Tables.requestAutoPull (h : Tables m s) {i : EntryIx} : Tables m (requestAutoPull s i) := by
  unfold Machine.requestAutoPull
  split
  · exact h.takeAutoPull
  · exact h

theorem Tables.takeAutoPulls (h : Tables m s) {is : List EntryIx} : Tables m (takeAutoPulls s is) := by
  have drawn : Tables m { s with draws := s.draws + 1 } := h.of_eq rfl rfl rfl
  unfold Machine.takeAutoPulls
  split
  · exact foldl_inv _ _ (fun _ _ hs => hs.takeAutoPull) _ h
  · exact foldl_inv _ _ (fun _ _ hs => hs.takeAutoPull) _ drawn

/-! ### Changes of role (section 1.6) -/

theorem Tables.enterPublisher (h : Tables m s) {i : EntryIx} {g v : Byte} {x : Vector Byte 12}
    (hr : (s.rt i).role.isMirror = true) (hm : (s.cfg i).movable = true) : Tables m (enterPublisher s i g v x) := by
  have role : ((Machine.removePull s i).rt i).role = (s.rt i).role := by rw [removePull_rt]
  refine (h.removePull.modRt fun hi => ?_).post
  exact hi.enterPublisher (by rw [role, hr]) (by rw [removePull_cfg, hm]) (h.not_recorded i)

theorem Tables.adopt (h : Tables m s) {i : EntryIx} (hr : (s.rt i).role = .claiming) : Tables m (adopt s i) :=
  h.enterPublisher (by rw [hr]; rfl) ((h.entry i).movable (.inl hr))

theorem Tables.enterYielding (h : Tables m s) {i : EntryIx} {st : Station} (hr : (s.rt i).role = .publisher)
    (hm : (s.cfg i).movable = true) (hs : m → ownNumber s ≠ some st) : Tables m (enterYielding s i st) :=
  h.modRt fun hi => hi.enterYielding hr hm hs

theorem Tables.failYield (h : Tables m s) {i : EntryIx} (hr : (s.rt i).role = .yielding) : Tables m (failYield s i) :=
  (h.modRt fun hi => hi.failYield hr).post

theorem Tables.enterMirror (h : Tables m s) {i : EntryIx} {st : Station} {g v : Byte} {x : Vector Byte 12}
    (hr : (s.rt i).role = .publisher ∨ (s.rt i).role = .yielding) (hm : (s.cfg i).movable = true)
    (hs : m → ownNumber s ≠ some st) : Tables m (enterMirror s i st g v x) :=
  h.modRt fun hi => hi.enterMirror hr hm hs

theorem Tables.endClaim (h : Tables m s) {i : EntryIx} {reason : Reason} (hr : (s.rt i).role = .claiming) :
    Tables m (endClaim s i reason) := by
  unfold Machine.endClaim
  dsimp only
  split
  · exact (h.modRt fun hi => hi.endClaim hr).post.requestAutoPull
  · exact (h.modRt fun hi => hi.endClaim hr).post

theorem Tables.takeClaim (h : Tables m s) {i : EntryIx} (hr : (s.rt i).role = .subscriber)
    (hm : (s.cfg i).movable = true) : Tables m (takeClaim s i) := by
  have role : ((Machine.removePull s i).rt i).role = (s.rt i).role := by rw [removePull_rt]
  exact h.removePull.modRt fun hi =>
    hi.takeClaim (by rw [role, hr]) (by rw [removePull_cfg, hm]) (h.not_recorded i)

/-! ### Lifecycle, score and roster -/

theorem Tables.postAll (h : Tables m s) {is : List EntryIx} {rs : ReasonSet} :
    Tables m (is.foldl (fun s i => Machine.post s i rs) s) :=
  foldl_inv _ _ (fun _ _ hs => hs.post) _ h

theorem Tables.mapRoster (h : Tables m s) {f : Station → RosterRecord → RosterRecord} : Tables m (s.mapRoster f) :=
  h.of_eq (by simp) (by simp) (by simp)

theorem Tables.halt (h : Tables m s) : Tables m (halt s) := by
  have ended := (h.mapRt (f := fun _ _ r => haltRuntime r) fun i hi => hi.halt).postAll
    (is := entriesWhere fun i => decide ((s.rt i).role = .claiming)) (rs := Reason.claimTimeout.alone)
  refine ended.of_records ?_ ?_ ?_
  · rw [halt_params, postAll_keeps (·.params) _ (fun s i => post_params s i _)]
    simp
  · unfold Machine.halt
    simp only [setFlag_entries, State.mapRoster_entries]
  · unfold Machine.halt
    simp only [setFlag_pulls, State.mapRoster_pulls, List.map_map]
    exact List.map_congr_left fun p _ => rfl

theorem Tables.settleLiu (h : Tables m s) : Tables m (settleLiu s) := h.of_eq (by simp) (by simp) (by simp)

theorem Tables.setFlag (h : Tables m s) {n : StationNotice} : Tables m (setFlag s n) :=
  h.of_eq (by simp) (by simp) (by simp)

theorem Tables.raiseAnnounce (h : Tables m s) {t : AnnounceType} : Tables m (raiseAnnounce s t) :=
  h.of_eq (by simp) (by simp) (by simp)

theorem Tables.enterOnline (h : Tables m s) : Tables m (enterOnline s) := by
  have online : Tables m { s with lifecycle := .online } := h.of_eq rfl rfl rfl
  have started : Tables m (({ s with lifecycle := .online } : State).mapRt fun _ c r =>
      if r.role = .publisher then { r with periodTimer := periodOnEntry { s with lifecycle := .online } c } else r) :=
    online.mapRt fun i hi => by
      split
      · next hr => exact hi.publisherChange hr
      · exact hi
  unfold Machine.enterOnline
  dsimp only
  refine Tables.settleLiu (Tables.setFlag (Tables.raiseAnnounce ?_))
  exact started.of_eq (by simp) (by simp) (by simp)

theorem Tables.enterLeaving (h : Tables m s) : Tables m (enterLeaving s) := by
  have stopped : Tables m (s.mapRt fun _ _ r => { r with periodTimer := none }) := h.mapRt fun i hi => hi.stopPeriod
  unfold Machine.enterLeaving
  refine Tables.raiseAnnounce ?_
  exact stopped.of_eq (by simp) (by simp) (by simp)

theorem Tables.leaveMuted (h : Tables m s) {n : Nat} : Tables m (leaveMuted s n) :=
  h.of_eq (by simp) (by simp) (by simp)

theorem Tables.noteFault (h : Tables m s) {k : FaultKind} : Tables m (noteFault s k) :=
  h.of_eq (by simp) (by simp) (by simp)

theorem Tables.scoreOutcome (h : Tables m s) {o : TxOutcome} : Tables m (scoreOutcome s o) :=
  h.of_eq (by simp) (by simp) (by simp)

theorem Tables.scoreReceiverFault (h : Tables m s) {k : FaultKind} : Tables m (scoreReceiverFault s k) :=
  h.of_eq (by simp) (by simp) (by simp)

theorem Tables.scoreCompletion (h : Tables m s) : Tables m (scoreCompletion s) :=
  h.of_eq (by simp) (by simp) (by simp)

theorem Tables.reportStanding (h : Tables m s) : Tables m (reportStanding s) := by
  unfold Machine.reportStanding
  split
  · exact h.halt
  · exact h.settleLiu

theorem Tables.betweenFrames (h : Tables m s) {w : Option Window} : Tables m (betweenFrames s w) :=
  h.of_eq (by simp) (by simp) (by simp)

theorem Tables.countJoinQuiet (h : Tables m s) {l : List Level} : Tables m (countJoinQuiet s l) :=
  h.of_eq (by simp) (by simp) (by simp)

theorem Tables.takeEvidence (h : Tables m s) {source : Option Station} {w : Window} :
    Tables m (takeEvidence s source w) := h.mapRoster

theorem Tables.restartAnnounceTimer (h : Tables m s) : Tables m (restartAnnounceTimer s) :=
  h.of_eq (by simp) (by simp) (by simp)

/-! ### Orphaning and the loss report (R134, R136) -/

theorem Tables.orphan (h : Tables m s) {st : Station} : Tables m (orphan s st) := by
  unfold Machine.orphan
  dsimp only
  refine (Tables.postAll (h.mapRt fun i hi => ?_)).takeAutoPulls
  split
  · next hh => exact hi.orphan hh
  · exact hi

@[simp] theorem failYield_role (s : State) (i j : EntryIx) :
    ((failYield s i).rt j).role = if j = i then .publisher else (s.rt j).role := by
  unfold failYield
  rw [post_rt, State.modRt_rt]
  split <;> rfl

/-- Each entry of a loss report is YIELDING when its yield fails: no entry is in the report twice. -/
theorem tables_failYields {is : List EntryIx} (nodup : is.Nodup) :
    ∀ {s : State}, Tables m s → (∀ i ∈ is, (s.rt i).role = .yielding) → Tables m (is.foldl failYield s) := by
  induction is with
  | nil => exact fun h _ => h
  | cons i is ih =>
    intro s h hr
    obtain ⟨hi, nodup⟩ := List.nodup_cons.1 nodup
    refine ih nodup (h.failYield (hr i (by simp))) fun j hj => ?_
    have hji : j ≠ i := fun hji => hi (hji ▸ hj)
    simpa [hji] using hr j (by simp [hj])

theorem Tables.reportLoss (h : Tables m s) {st : Station} : Tables m (reportLoss s st) := by
  refine tables_failYields ((List.nodup_finRange 128).filter _) h fun i hi => ?_
  have := (List.mem_filter.1 hi).2
  simp only [yieldsTo, Bool.and_eq_true, decide_eq_true_eq] at this
  exact this.1

theorem Tables.orphanAndReport (h : Tables m s) {st : Station} : Tables m (orphanAndReport s st) := by
  have drawn : Tables m { s with draws := s.draws + 1 } := h.of_eq rfl rfl rfl
  unfold Machine.orphanAndReport
  split
  · dsimp only
    split
    · exact drawn.reportLoss.orphan
    · exact drawn.orphan.reportLoss
  · exact h.orphan.reportLoss

theorem Tables.setRecord (h : Tables m s) {st : Station} {r : RosterRecord} : Tables m (setRecord s st r) := h.mapRoster

theorem Tables.hearAnnounce (h : Tables m s) {st : Station} {t : AnnounceType} {w : Window} :
    Tables m (hearAnnounce s st t w) := by
  unfold Machine.hearAnnounce
  cases t with
  | join => exact h.takeEvidence.setRecord.orphan
  | present => exact h.takeEvidence.setRecord
  | leave => exact h.takeEvidence.setRecord.orphanAndReport

end

end Sys2Proof.Machine
end

section
/-! SUPPORT. The tables keep their laws at a completion and at an outcome: the verdicts applied, the merge watch, and
what each block does with the outcome of its own frame. -/

namespace Sys2Proof.Machine

section
variable {m : Prop} {s : State}

/-! ### Verdicts at completion -/

/-- What `verdictLaw` says of one verdict. -/
def verdictFits (s : State) (v : VerdictRecord) : Prop :=
  (∀ p, s.params = some p → v.frame.source ≠ p.station ∧ v.effective ≠ some p.station) ∧
  ∀ i, v.entry = some i → (v.verdict = .cede ∨ v.verdict = .assume ∨ v.verdict = .depose) → (s.cfg i).movable = true

theorem verdictFits.source {v : VerdictRecord} (h : verdictFits s v) : ownNumber s ≠ some v.frame.source := by
  unfold ownNumber
  cases hp : s.params with
  | none => simp
  | some p => simpa [eq_comm] using (h.1 p hp).1

theorem verdictFits.effective {v : VerdictRecord} (h : verdictFits s v) :
    ownNumber s ≠ some (v.effective.getD v.frame.source) := by
  cases he : v.effective with
  | none => simpa using h.source
  | some st =>
    unfold ownNumber
    cases hp : s.params with
    | none => simp
    | some p => simpa [eq_comm, he] using (h.1 p hp).2

theorem Tables.applyAccept (h : Tables m s) {i : EntryIx} {st : Station} {b : FrameBody} {rs : ReasonSet}
    (hs : m → ownNumber s ≠ some st) : Tables m (applyAccept s i st b rs) := by
  unfold Machine.applyAccept
  split
  · next hr => exact (h.modRt fun hi => hi.renew hr hs).removePull.post
  · exact h

theorem Tables.applyRefresh (h : Tables m s) {i : EntryIx} {st : Station} {b : FrameBody}
    (hs : m → ownNumber s ≠ some st) : Tables m (applyRefresh s i st b) := by
  unfold Machine.applyRefresh
  split
  · next hr =>
    have refreshed : Tables m (s.modRt i (refreshRuntime s.time (s.cfg i) st)) :=
      h.modRt fun hi => hi.renew hr hs
    split
    · exact refreshed.removePull.post
    · exact refreshed.removePull.post
    all_goals exact h.applyAccept hs
  · exact h

theorem Tables.applyCede (h : Tables m s) {i : EntryIx} {v : VerdictRecord} (hm : (s.cfg i).movable = true)
    (hs : m → ownNumber s ≠ some v.frame.source) : Tables m (applyCede s i v) := by
  unfold Machine.applyCede
  split
  · next hc =>
    have yielding := h.enterYielding hc.2 hm hs
    dsimp only
    repeat' split
    · exact yielding.post
    all_goals exact yielding
  · exact h

theorem Tables.applyAssume (h : Tables m s) {i : EntryIx} {v : VerdictRecord} (hm : (s.cfg i).movable = true) :
    Tables m (applyAssume s i v) := by
  unfold Machine.applyAssume
  split
  · next hc => exact h.enterPublisher hc.2 hm
  · exact h

theorem Tables.applyDepose (h : Tables m s) {i : EntryIx} {v : VerdictRecord} (hm : (s.cfg i).movable = true)
    (hs : m → ownNumber s ≠ some (v.effective.getD v.frame.source)) : Tables m (applyDepose s i v) := by
  unfold Machine.applyDepose
  split
  · next hr => exact (h.enterMirror hr hm hs).post
  · exact h

theorem Tables.applyVerdict (h : Tables m s) {v : VerdictRecord} (hv : verdictFits s v) :
    Tables m (applyVerdict s v) := by
  unfold Machine.applyVerdict
  split
  · exact h
  · next i hi =>
    split
    · exact h.applyAccept fun _ => hv.effective
    · exact h.applyRefresh fun _ => hv.effective
    · exact h.post
    · exact h
    · exact h
    · exact h.raisePublish
    · next hc => exact h.applyCede (hv.2 i hi (.inl hc)) fun _ => hv.source
    · next ha => exact h.applyAssume (hv.2 i hi (.inr (.inl ha)))
    · next hd => exact h.applyDepose (hv.2 i hi (.inr (.inr hd))) fun _ => hv.effective
    · exact h.post.raisePublish
    · exact h.post

/-! ### The records of the Pull Table (R99 to R102) -/

theorem recordedIn_of_findPull {i : EntryIx} {p : PullRecord} (h : findPull s i = some p) : recordedIn s i :=
  (recordedIn_iff s i).2 (by rw [h]; rfl)

theorem Tables.raisePull (h : Tables m s) {i : EntryIx} (hi : recordedIn s i) : Tables m (raisePull s i) := by
  have idle : (s.rt i).pullWanted = false := by
    simpa using fun hw => ((h.entry i).unwanted hw).2 hi
  exact h.modRt fun hl => hl.record (hl.subscriber_of_recorded hi) idle hi

theorem Tables.keepPull (h : Tables m s) {i : EntryIx} {f : PullRecord → PullRecord} (hf : ∀ p, (f p).entry = p.entry)
    (hi : recordedIn s i) : Tables m (keepPull s i f) := by
  have kept := h.modPull (i := i) hf
  have hi : recordedIn (Machine.modPull s i f) i := by
    rw [recordedIn_iff, findPull_isSome] at hi ⊢
    obtain ⟨p, hp, hpi⟩ := hi
    exact ⟨f p, List.mem_map.2 ⟨p, hp, if_pos hpi⟩, (hf p).trans hpi⟩
  exact kept.raisePull hi

theorem Tables.pullUnanswered (h : Tables m s) {i : EntryIx} : Tables m (pullUnanswered s i) := h.removePull.post

theorem Tables.judgePullWindow (h : Tables m s) {i : EntryIx} {w : Window} : Tables m (judgePullWindow s i w) := by
  unfold Machine.judgePullWindow
  split
  · refine Tables.modRt (h.modPull ?_) fun hi => hi.dropPull
    exact fun _ => rfl
  · exact h.pullUnanswered

theorem Tables.endMergeWatch (h : Tables m s) {v : VerdictRecord} {w : Window} : Tables m (endMergeWatch s v w) := by
  unfold Machine.endMergeWatch judgeMergeWatch
  repeat' split
  · exact h.judgePullWindow
  all_goals exact h

theorem Tables.abandonMergeWatch (h : Tables m s) : Tables m (abandonMergeWatch s) := by
  unfold Machine.abandonMergeWatch
  repeat' split
  · exact h
  · exact h.modPull fun _ => rfl
  · exact h.pullUnanswered

theorem Tables.pullOutcome (h : Tables m s) {i : EntryIx} {o : TxOutcome} {w : Option Window} :
    Tables m (pullOutcome s i o w) := by
  unfold Machine.pullOutcome
  split
  · exact h
  · next p hp =>
    have hi := recordedIn_of_findPull hp
    split
    · split
      · refine Tables.judgePullWindow (h.modPull ?_)
        exact fun _ => rfl
      · exact h.pullUnanswered
      · split
        · exact h.keepPull (fun _ => rfl) hi
        · exact h.pullUnanswered
      · exact h.keepPull (fun _ => rfl) hi
      · exact h.keepPull (fun _ => rfl) hi
    · exact h

/-! ### Capture (R73) -/

theorem Tables.capture (h : Tables m s) {q : Request} : Tables m (capture s q) := by
  have left : Tables m (leaveSet s q) := by
    unfold leaveSet
    cases q with
    | publish i => exact h.modRt fun hi => hi.dropPublish
    | pull i => exact (h.modRt fun hi => hi.dropPull).modPull fun _ => rfl
    | claim i => exact h.modRt fun hi => hi.dropClaim _
    | yield i => exact h.modRt fun hi => hi.dropYield
    | announce t => exact h.of_eq rfl rfl rfl
  exact left.of_eq rfl rfl rfl

/-! ### PUBLISH and ANNOUNCE outcomes -/

theorem Tables.returnPublish (h : Tables m s) {i : EntryIx} {n : Nat} : Tables m (returnPublish s i n) := by
  refine h.modRt fun hi => ?_
  split
  · next hr => exact hi.publisherChange hr
  · exact hi

theorem delivery_of_governing {r : Runtime} {captured : Byte} {d : Delivery} (h : governing r captured = some d) :
    r.delivery ≠ none := by
  unfold governing at h
  split at h
  · next hd => rw [hd]; simp
  · cases h

theorem Tables.publishOutcome (h : Tables m s) {i : EntryIx} {n : Nat} {captured : Byte} {o : TxOutcome}
    {w : Option Window} : Tables m (publishOutcome s i n captured o w) := by
  have inhibited : Tables m (startInhibit s i o) := by
    refine h.modRt fun hi => ?_
    split
    · next hc => exact hi.publisherChange hc.2.2
    · exact hi
  unfold Machine.publishOutcome
  dsimp only
  split
  · next d hd =>
    have accounted : ∀ d, Tables m ((startInhibit s i o).modRt i fun r => { r with delivery := some d }) :=
      fun d => inhibited.modRt fun hi => hi.accountDelivery (delivery_of_governing hd) d
    unfold governedPublish
    dsimp only
    split
    · exact (accounted _).post
    · exact (accounted _).returnPublish
  · unfold unconfirmedPublish
    split
    · exact inhibited
    · exact inhibited.returnPublish
    · exact inhibited.returnPublish
    all_goals
      repeat' split
      · exact inhibited.returnPublish
      · exact inhibited.post
      · exact inhibited

theorem Tables.announceOutcome (h : Tables m s) {t : AnnounceType} {n : Nat} {o : TxOutcome} :
    Tables m (announceOutcome s t n o).1 := by
  have returned : ∀ n, Tables m (returnAnnounce s t n) := fun n => h.of_eq rfl rfl rfl
  unfold Machine.announceOutcome
  repeat' split
  all_goals first | exact h | exact returned _

/-! ### CLAIM outcomes -/

theorem Tables.keepClaim (h : Tables m s) {i : EntryIx} (hr : (s.rt i).role = .claiming) :
    Tables m (keepClaim s i) := by
  obtain ⟨-, -, -, ⟨-, claim, -⟩, -⟩ := (entryLawful_claiming hr).1 (h.entry i)
  obtain ⟨p, hp⟩ := Option.ne_none_iff_exists'.1 claim
  refine h.modRt fun hi => ?_
  simpa [hp] using hi.claimChange hr (p := p) (b := true)

theorem Tables.claimCompleted (h : Tables m s) {i : EntryIx} {k : ClaimKind} {w : Window}
    (hr : (s.rt i).role = .claiming) : Tables m (claimCompleted s i k w) := by
  unfold Machine.claimCompleted
  repeat' split
  · exact h
  · exact h.adopt hr
  · exact h.endClaim hr
  · exact h.keepClaim hr
  · exact h.keepClaim hr

theorem Tables.claimOutcome (h : Tables m s) {i : EntryIx} {o : TxOutcome} {w : Option Window} :
    Tables m (claimOutcome s i o w) := by
  unfold Machine.claimOutcome
  split
  · exact h
  · next c _ =>
    split
    · next hc =>
      have unmarked : Tables m (s.modRt i fun r => { r with claim := some { c with frameMark := false } }) :=
        h.modRt fun hi => hi.claimChange hc.1
      have hr : ((s.modRt i fun r => { r with claim := some { c with frameMark := false } }).rt i).role
          = .claiming := by
        rw [State.modRt_rt_self]; exact hc.1
      dsimp only
      split
      · exact unmarked.claimCompleted hr
      · split
        · exact unmarked.keepClaim hr
        · exact unmarked.adopt hr
      · exact unmarked.keepClaim hr
      · exact unmarked.keepClaim hr
      · exact unmarked.endClaim hr
    · exact h

/-! ### YIELD outcomes -/

theorem Tables.keepYield (h : Tables m s) {i : EntryIx} {n : Nat} (hr : (s.rt i).role = .yielding) :
    Tables m (keepYield s i n) := h.modRt fun hi => hi.keepYield hr n

theorem Tables.retryYield (h : Tables m s) {i : EntryIx} {n : Nat} (hr : (s.rt i).role = .yielding) :
    Tables m (retryYield s i n) := by
  unfold Machine.retryYield
  split
  · exact h.keepYield hr
  · exact h.failYield hr

theorem Tables.yieldOutcome (h : Tables m s) {i : EntryIx} {o : TxOutcome} {w : Option Window} :
    Tables m (yieldOutcome s i o w) := by
  unfold Machine.yieldOutcome
  split
  · exact h
  · next y hy =>
    split
    · next hr =>
      have target : m → ownNumber s ≠ some y.target := fun hm => by
        obtain ⟨-, targets, -⟩ := (h.entry i).origin hm
        exact targets y hy
      dsimp only
      split
      · split
        · exact (h.enterMirror (.inr hr) ((h.entry i).movable (.inr hr)) target).post
        · exact h.failYield hr
        · exact h.retryYield hr
        · exact h.retryYield hr
      · exact h.retryYield hr
      · exact h.retryYield hr
      · exact h.keepYield hr
      · exact h.keepYield hr
    · exact h

/-! ### The outcome handled by every block (R75) -/

theorem Tables.fcuOutcome (h : Tables m s) {o : TxOutcome} : Tables m (fcuOutcome s o) := by
  unfold Machine.fcuOutcome
  split
  · exact h.noteFault.scoreOutcome
  · exact h.scoreOutcome

theorem Tables.outcomeEvidence (h : Tables m s) {o : TxOutcome} {w : Option Window} :
    Tables m (outcomeEvidence s o w) := by
  unfold Machine.outcomeEvidence
  split
  · exact h.takeEvidence.restartAnnounceTimer
  · exact h.takeEvidence
  · exact h

theorem Tables.ownerOutcome (h : Tables m s) {fl : InFlight} {o : TxOutcome} {w : Option Window} :
    Tables m (ownerOutcome s fl o w).1 := by
  unfold Machine.ownerOutcome
  split
  · exact h.publishOutcome
  · exact h.pullOutcome
  · exact h.claimOutcome
  · exact h.yieldOutcome
  · exact h.announceOutcome

theorem Tables.afterOutcome (h : Tables m s) {leaveOver : Bool} : Tables m (afterOutcome s leaveOver) := by
  unfold Machine.afterOutcome
  split
  · exact h.halt
  · exact h.reportStanding

theorem Tables.handleOutcome (h : Tables m s) {fl : InFlight} {o : TxOutcome} {w : Option Window} :
    Tables m (handleOutcome s fl o w) := by
  have landed : Tables m { s with inFlight := none } := h.of_eq rfl rfl rfl
  exact landed.fcuOutcome.outcomeEvidence.ownerOutcome.afterOutcome

/-! ### A received frame completed, or found faulty -/

theorem Tables.completionEvidence (h : Tables m s) {f : Frame} {w : Window} : Tables m (completionEvidence s f w) := by
  unfold Machine.completionEvidence
  split
  · exact h.hearAnnounce
  all_goals exact h.takeEvidence

theorem Tables.afterAnswer (h : Tables m s) {driven : Bool} : Tables m (afterAnswer s driven) := by
  unfold Machine.afterAnswer
  split
  · exact h.restartAnnounceTimer
  · exact h

theorem Tables.afterCompletion (h : Tables m s) : Tables m (afterCompletion s) := by
  unfold Machine.afterCompletion
  split
  · exact h.enterOnline
  · exact h

theorem Tables.presentCompletion (h : Tables m s) {v : VerdictRecord} {w : Window} (hv : verdictFits s v) :
    Tables m (presentCompletion s v w) := by
  have dropped : Tables m { s with verdict := none } := h.of_eq rfl rfl rfl
  have fits : verdictFits { s with verdict := none } v := hv
  exact (dropped.applyVerdict fits).endMergeWatch.completionEvidence.scoreCompletion.afterAnswer.afterCompletion

theorem Tables.receiverFault (h : Tables m s) {levels : List Level} {k : FaultKind} :
    Tables m (receiverFault s levels k) := by
  have left : Tables m { liuOnFault (Machine.countJoinQuiet s levels) (s.liu.sampled ++ levels) k with
      verdict := none } := h.countJoinQuiet.of_eq rfl rfl rfl
  exact left.abandonMergeWatch.scoreReceiverFault.reportStanding

end

end Sys2Proof.Machine
end

section
/-! SUPPORT. In CONFIGURING nothing has been received or requested, and every command keeps that (`configuringLaw`). -/

namespace Sys2Proof.Machine

/-! ### CONFIGURING: nothing received, nothing requested -/

/-- What `configuringLaw` says of a state in CONFIGURING. -/
structure Dormant (s : State) : Prop where
  liu : s.liu = .off
  verdict : s.verdict = none
  announce : s.announce = none
  inFlight : s.inFlight = none
  pulls : s.pulls = []
  announceTimer : s.announceTimer = none
  record : ∀ st, s.record st = .cleared
  rt : ∀ i, { s.rt i with held := false, holdTimer := none, deferred := none } = resetRuntime (s.cfg i)

theorem configuringLaw_iff (s : State) : configuringLaw s ↔ (s.lifecycle = .configuring → Dormant s) := by
  refine imp_congr_right fun _ => ⟨?_, ?_⟩
  · rintro ⟨liu, verdict, announce, inFlight, pulls, announceTimer, record, rt⟩
    exact ⟨liu, verdict, announce, inFlight, pulls, announceTimer, record, rt⟩
  · rintro ⟨liu, verdict, announce, inFlight, pulls, announceTimer, record, rt⟩
    exact ⟨liu, verdict, announce, inFlight, pulls, announceTimer, record, rt⟩

/-- At reset values an entry has no source, no yield target, and no timer but a hold's. -/
theorem resetRuntime_absent (c : ItemConfig) :
    (resetRuntime c).source = none ∧ (resetRuntime c).yield = none ∧ (resetRuntime c).freshTimer = none ∧
    (resetRuntime c).periodTimer = none ∧ (resetRuntime c).inhibitTimer = none ∧
    (resetRuntime c).claimTimer = none := by
  unfold resetRuntime
  cases c.role <;> exact ⟨rfl, rfl, rfl, rfl, rfl, rfl⟩

theorem resetRuntime_unheld (c : ItemConfig) :
    { resetRuntime c with held := false, holdTimer := none, deferred := none } = resetRuntime c := by
  unfold resetRuntime
  cases c.role <;> rfl

/-- What an entry of a dormant state has not. -/
theorem Dormant.absent {s : State} (h : Dormant s) (i : EntryIx) :
    (s.rt i).source = none ∧ (s.rt i).yield = none ∧ (s.rt i).freshTimer = none ∧ (s.rt i).periodTimer = none ∧
    (s.rt i).inhibitTimer = none ∧ (s.rt i).claimTimer = none := by
  have := resetRuntime_absent (s.cfg i)
  rw [← h.rt i] at this
  exact this

section
variable {s t : State} (h : Dormant s)
include h

/-- A dormant state stays so while nothing but holds, deferred reasons and the fields of the host changes. -/
theorem Dormant.of_eq (liu : t.liu = s.liu) (verdict : t.verdict = s.verdict) (announce : t.announce = s.announce)
    (inFlight : t.inFlight = s.inFlight) (pulls : t.pulls = s.pulls) (announceTimer : t.announceTimer = s.announceTimer)
    (record : ∀ st, t.record st = s.record st) (cfg : ∀ i, t.cfg i = s.cfg i)
    (rt : ∀ i, t.rt i = { s.rt i with
      held := (t.rt i).held, holdTimer := (t.rt i).holdTimer, deferred := (t.rt i).deferred }) : Dormant t where
  liu := liu.trans h.liu
  verdict := verdict.trans h.verdict
  announce := announce.trans h.announce
  inFlight := inFlight.trans h.inFlight
  pulls := pulls.trans h.pulls
  announceTimer := announceTimer.trans h.announceTimer
  record st := (record st).trans (h.record st)
  rt i := by rw [rt, cfg]; exact h.rt i

/-- The fields of the host, of the clock and of the model are none of its business. -/
theorem Dormant.hostFields {notices : List NoticeRecord} {flags : FlagSet} {params : Option StationParams} {time : Time}
    {reply : Option (List Byte)} {shiftedOut : List Byte} {draws : Nat} {pending : List Instr} :
    Dormant { s with
      notices := notices, flags := flags, params := params, time := time, reply := reply, shiftedOut := shiftedOut
      draws := draws, pending := pending } :=
  h.of_eq rfl rfl rfl rfl rfl rfl (fun _ => rfl) (fun _ => rfl) (fun _ => rfl)

theorem Dormant.withReply {u : State} {ops : List Byte} {r : List Byte} : Dormant (withReply u ops s r) := h.hostFields

theorem Dormant.refuse {ops : List Byte} {st : Status} : Dormant (refuse s ops st) := h.withReply

theorem Dormant.rehold {i : EntryIx} {f : Runtime → Runtime}
    (hf : ∀ r, f r = { r with held := (f r).held, holdTimer := (f r).holdTimer }) : Dormant (s.modRt i f) :=
  h.of_eq (by simp) (by simp) (by simp) (by simp) (by simp) (by simp) (by simp) (by simp) fun j => by
    rw [State.modRt_rt]
    split
    · rw [hf]
    · rfl

theorem Dormant.post {i : EntryIx} {rs : ReasonSet} : Dormant (post s i rs) :=
  h.of_eq (by simp) (by simp) (by simp) (by simp) (by simp) (by simp) (by simp) (by simp) fun j => by
    rw [post_rt]

theorem Dormant.refillNotices : Dormant (refillNotices s) :=
  h.of_eq (by simp) (by simp) (by simp) (by simp) (by simp) (by simp) (by simp) (by simp) fun j => by
    rw [refillNotices_rt]

end

/-! ### SET-ITEM, RESTART, START and full reset -/

/-- A removal changes nothing of an entry but its deferred reasons. -/
theorem removeNotice_rt (s : State) (i j : EntryIx) :
    (removeNotice s i).rt j = { s.rt j with deferred := ((removeNotice s i).rt j).deferred } := by
  unfold removeNotice
  split
  · rw [refillNotices_rt]; rfl
  · rfl

/-- A stored entry is at its reset values, deferred reasons apart; the others are as they were. -/
theorem storeItem_rt (s : State) (i j : EntryIx) (c : ItemConfig) :
    (storeItem s i c).rt j = { (if j = i then resetRuntime c else s.rt j) with
      deferred := ((storeItem s i c).rt j).deferred } := by
  unfold storeItem
  rw [removeNotice_rt]
  split
  · next h => subst h; rw [(State.setEntry_self s j _).2]
  · next h => rw [(State.setEntry_ne s _ h).2]

theorem Dormant.storeItem {s : State} (h : Dormant s) {i : EntryIx} {c : ItemConfig} : Dormant (storeItem s i c) where
  liu := by simp [Machine.storeItem, h.liu]
  verdict := by simp [Machine.storeItem, h.verdict]
  announce := by simp [Machine.storeItem, h.announce]
  inFlight := by simp [Machine.storeItem, h.inFlight]
  pulls := by simp [Machine.storeItem, h.pulls]
  announceTimer := by simp [Machine.storeItem, h.announceTimer]
  record st := by simp [Machine.storeItem, h.record]
  rt j := by
    rw [storeItem_rt, storeItem_cfg]
    split
    · exact resetRuntime_unheld c
    · exact h.rt j

theorem clearRuntime_rt (s : State) (i : EntryIx) : (clearRuntime s).rt i = resetRuntime (s.cfg i) :=
  State.mapRt_rt s (fun _ c _ => resetRuntime c) i

theorem dormant_clearRuntime (s : State) : Dormant (clearRuntime s) where
  liu := rfl
  verdict := rfl
  announce := rfl
  inFlight := rfl
  pulls := rfl
  announceTimer := rfl
  record st := State.mapRoster_record (s.mapRt fun _ c _ => resetRuntime c) (fun _ _ => .cleared) st
  rt i := by rw [clearRuntime_rt, clearRuntime_cfg]; exact resetRuntime_unheld _

theorem State.reset_rt (i : EntryIx) : State.reset.rt i = .unused := by simp [State.reset, State.rt]

theorem dormant_reset : Dormant State.reset where
  liu := rfl
  verdict := rfl
  announce := rfl
  inFlight := rfl
  pulls := rfl
  announceTimer := rfl
  record st := by simp [State.record, State.reset]
  rt i := by rw [State.reset_rt, State.reset_cfg]; rfl

/-! ### `configuringLaw` is kept -/

section
variable {s : State} (h : Dormant s) (hl : s.lifecycle = .configuring)
include h hl

/-- In CONFIGURING the host's commands change holds, deferred reasons and the configuration alone, or start the
station. -/
theorem Dormant.exec_port {c : Instr} {ops : List Byte} (hc : operandsOf c = some ops) :
    Leads configuringLaw (exec c s) := by
  have busy : takesRequests s.lifecycle = false := by rw [hl]; rfl
  have dormant : ∀ t, Dormant t → configuringLaw t := fun t ht => (configuringLaw_iff t).2 fun _ => ht
  have refused : ∀ ops st, configuringLaw (Machine.refuse s ops st) := fun ops st => dormant _ h.refuse
  cases c with
  | nop ops => exact leads_done.2 (dormant _ h.hostFields)
  | status ops => exact leads_done.2 (dormant _ h.hostFields)
  | nextNotice ops =>
    simp only [exec, execNextNotice]
    split
    · exact leads_done.2 (refused _ _)
    · next n rest _ =>
      have removed : Dormant { s with notices := rest } :=
        h.hostFields
      exact leads_done.2 (dormant _ removed.refillNotices.withReply)
  | read ops => exact leads_done.2 (onEntry_of (refused _) fun _ _ => dormant _ h.withReply)
  | readDelivery ops => exact leads_done.2 (onEntry_of (refused _) fun _ _ => dormant _ h.withReply)
  | readRoster ops => exact leads_done.2 (dormant _ h.withReply)
  | write ops =>
    refine leads_done.2 (onEntry_of (refused _) fun i _ => ?_)
    simp only [busy, Bool.false_eq_true, and_false, if_false]
    split <;> exact refused _ _
  | hold ops =>
    refine leads_done.2 (onEntry_of (refused _) fun i _ => ?_)
    have drawn : Dormant (holdLimit s).2 := by
      unfold holdLimit
      split
      · exact h
      · exact h.hostFields
    split
    · exact dormant _ (drawn.rehold fun _ => rfl).withReply
    · exact refused _ _
  | release ops =>
    refine leads_done.2 (onEntry_of (refused _) fun i _ => ?_)
    split
    · exact dormant _ (h.rehold fun r => by split <;> rfl).withReply
    · exact refused _ _
  | pull ops =>
    refine leads_done.2 (onEntry_of (refused _) fun i _ => ?_)
    simp only [busy, Bool.false_eq_true, and_false, if_false]
    exact refused _ _
  | claim ops =>
    refine leads_done.2 (onEntry_of (refused _) fun i _ => ?_)
    simp only [busy, Bool.false_eq_true, and_false, if_false]
    exact refused _ _
  | setStation ops =>
    refine execSetStation_cases.imp ?_
    rintro t (⟨st, rfl⟩ | ⟨-, p, rfl⟩)
    · exact refused _ _
    · exact dormant _ h.hostFields
  | setItem ops =>
    refine execSetItem_cases.imp ?_
    rintro t (⟨st, rfl⟩ | ⟨-, i, c, -, -, rfl⟩)
    · exact refused _ _
    · exact dormant _ h.storeItem.withReply
  | start ops =>
    simp only [exec, execStart, hl, ne_eq, not_true_eq_false, if_false]
    split
    · exact leads_done.2 (dormant _ h.withReply)
    · refine leads_done.2 ((configuringLaw_iff _).2 fun hc => ?_)
      cases hc
  | stop ops =>
    simp only [exec, execStop, hl, ne_eq, reduceCtorEq, not_false_eq_true, if_true]
    exact leads_done.2 (refused _ _)
  | rejoin ops =>
    simp only [exec, execRejoin, hl, reduceCtorEq, false_and, if_false]
    exact leads_done.2 (refused _ _)
  | restart ops => exact leads_done.2 (dormant _ (dormant_clearRuntime s).withReply)
  | unknownCommandCode code ops => exact leads_done.2 (refused _ _)
  | _ => cases hc

/-- In CONFIGURING nothing happens on the line: the LIU is OFF, nothing is in flight and no timer of a request runs. -/
theorem Dormant.exec_happening {c : Instr} (hc : operandsOf c = none) : Leads configuringLaw (exec c s) := by
  have dormant : ∀ t, Dormant t → configuringLaw t := fun t ht => (configuringLaw_iff t).2 fun _ => ht
  have idle : Leads configuringLaw (done s) := leads_done.2 (dormant s h)
  have phase : s.liu.phase = .off := by rw [h.liu]; rfl
  have contention : s.liu.contention = .none := by rw [h.liu]; rfl
  have mark : s.liu.markBits = 0 := by rw [h.liu]; rfl
  cases c with
  | emptyTransaction =>
    exact leads_done.2 (dormant _ h.hostFields)
  | fullReset =>
    exact leads_done.2 (dormant _ dormant_reset.hostFields)
  | stationTimeTick =>
    exact leads_done.2 (dormant _ h.hostFields)
  | lineFree n => simpa [exec, execLineFree, countGap, phase] using idle
  | startBitCapture => simpa [exec, execStartBitCapture, phase] using idle
  | frameVerdictPoint levels => simpa [exec, execFrameVerdictPoint, phase] using idle
  | receivedFrameCompletion levels => simpa [exec, execReceivedFrameCompletion, phase] using idle
  | joinQuiet n => simpa [exec, execJoinQuiet, hl] using idle
  | ownFrameOutcome levels => simpa [exec, execOwnFrameOutcome, h.inFlight] using idle
  | faultFound levels => simpa [exec, execFaultFound, sends, contention, phase] using idle
  | lineRecovered levels => simpa [exec, execLineRecovered, recoveryStart, mark, phase] using idle
  | silentFrameEnd levels => simpa [exec, execSilentFrameEnd, phase] using idle
  | duplicateSighting levels => simpa [exec, execDuplicateSighting, takesRequests, hl] using idle
  | startBitOfAnotherStation => simpa [exec, execStartBitOfAnotherStation, phase] using idle
  | periodTimerExpiry i =>
    obtain ⟨-, -, -, period, -, -⟩ := h.absent i
    simpa [exec, execPeriodTimerExpiry, period] using idle
  | inhibitTimerExpiry i =>
    obtain ⟨-, -, -, -, inhibit, -⟩ := h.absent i
    simpa [exec, execInhibitTimerExpiry, inhibit] using idle
  | freshnessTimerExpiry i =>
    obtain ⟨-, -, fresh, -, -, -⟩ := h.absent i
    simpa [exec, execFreshnessTimerExpiry, fresh] using idle
  | holdTimerExpiry i =>
    simp only [exec, execHoldTimerExpiry]
    split
    · exact leads_done.2 (dormant _ (h.rehold fun _ => rfl).post)
    · exact idle
  | claimTimerExpiry i =>
    obtain ⟨-, -, -, -, -, claim⟩ := h.absent i
    simpa [exec, execClaimTimerExpiry, claim] using idle
  | pullReplyTimerExpiry i => simpa [exec, execPullReplyTimerExpiry, findPull, h.pulls] using idle
  | silenceTimerExpiry st => simpa [exec, execSilenceTimerExpiry, h.record, RosterRecord.cleared] using idle
  | ownAnnounceTimerExpiry => simpa [exec, execOwnAnnounceTimerExpiry, h.announceTimer] using idle
  | _ => cases hc

end

theorem exec_keeps_configuringLaw {c : Instr} {s : State} (h : configuringLaw s) : Leads configuringLaw (exec c s) := by
  rw [configuringLaw_iff] at h
  by_cases hl : s.lifecycle = .configuring
  · cases hc : operandsOf c with
    | none => exact (h hl).exec_happening hl hc
    | some ops => exact (h hl).exec_port hl hc
  · have left : ∀ t, t.lifecycle ≠ .configuring → configuringLaw t := fun t ht => (configuringLaw_iff t).2 fun hc =>
      absurd hc ht
    by_cases hs : setsUp c = false
    · exact (exec_steady hs).imp fun t ht => left t (ht.lifecycle hl)
    cases c with
    | setStation ops =>
      refine execSetStation_cases.imp ?_
      rintro t (⟨st, rfl⟩ | ⟨hc, -⟩)
      · exact left _ hl
      · exact absurd hc hl
    | setItem ops =>
      refine execSetItem_cases.imp ?_
      rintro t (⟨st, rfl⟩ | ⟨hc, -⟩)
      · exact left _ hl
      · exact absurd hc hl
    | restart ops => exact leads_done.2 ((configuringLaw_iff _).2 fun _ => (dormant_clearRuntime s).withReply)
    | fullReset =>
      exact leads_done.2 ((configuringLaw_iff _).2 fun _ =>
        dormant_reset.hostFields)
    | frameVerdictPoint levels =>
      have sampled : Steady s (sampleOn s levels .window) := (Steady.refl s).sampleOn
      refine execFrameVerdictPoint_cases.imp ?_
      rintro t (ht | ⟨f, -, rfl⟩)
      · exact left _ (ht.lifecycle hl)
      · exact left _ (sampled.lifecycle hl)
    | _ => exact absurd rfl hs

end Sys2Proof.Machine
end

section
/-! SUPPORT. The verdict on a frame of another station keeps `verdictLaw`; every command keeps the laws of the tables and
of mirrored values. -/

namespace Sys2Proof.Machine

/-! ### A judgement names no own source, and changes the role of movable entries alone (R11, R117, R122, R124) -/

/-- What `verdictLaw` asks of a judgement on a frame for an entry of configuration `c`. -/
def judgementFits (own : Station) (c : ItemConfig) (j : Judgement) : Prop :=
  j.effective ≠ some own ∧ ((j.verdict = .cede ∨ j.verdict = .assume ∨ j.verdict = .depose) → c.movable = true)

section
variable {own : Station} {c : ItemConfig} {r : Runtime} {sender effective : Station} {g v : Byte}

theorem judgementFits_ignore (rs : ReasonSet) : judgementFits own c (ignoreWith rs) := by
  simp [judgementFits, ignoreWith]

theorem judgementFits_deferred : judgementFits own c deferred := by
  simp [judgementFits, deferred]

theorem judgementFits_accept (he : effective ≠ own) (rs : ReasonSet) :
    judgementFits own c (acceptFrom effective rs) := by
  simp [judgementFits, acceptFrom, he]

theorem judgeMirror_fits (he : effective ≠ own) : judgementFits own c (judgeMirror r sender effective g v) := by
  unfold judgeMirror judgeVersion judgeRival
  repeat' split
  all_goals first
    | exact judgementFits_accept he _
    | exact judgementFits_ignore _
    | simp [judgementFits, he]

theorem judgeConflict_fits (he : effective ≠ own) :
    judgementFits own c (judgeConflict own c r sender effective g) := by
  unfold judgeConflict
  repeat' split
  · next hm => exact ⟨by simpa using he, fun _ => hm⟩
  · simp [judgementFits]
  · simp [judgementFits]

theorem judgePublication_fits (he : effective ≠ own) :
    judgementFits own c (judgePublication own c r sender effective g v) := by
  unfold judgePublication
  split
  · exact judgeMirror_fits he
  · exact judgeConflict_fits he

theorem judgeYieldToSelf_fits : judgementFits own c (judgeYieldToSelf c r) := by
  unfold judgeYieldToSelf
  repeat' split
  · simp [judgementFits]
  · next hm => exact ⟨by simp, fun _ => hm⟩
  · exact judgementFits_ignore _

theorem judgePull_fits : judgementFits own c (judgePull r) := by
  unfold judgePull
  split
  · simp [judgementFits]
  · exact judgementFits_deferred
  all_goals exact judgementFits_ignore _

theorem judgeClaim_fits : judgementFits own c (judgeClaim c r) := by
  unfold judgeClaim
  split
  · split
    · next hm => exact ⟨by simp, fun _ => hm⟩
    · exact judgementFits_ignore _
  · exact judgementFits_deferred
  all_goals exact judgementFits_ignore _

theorem judgeHold_fits {j : Judgement} (h : judgementFits own c j) : judgementFits own c (judgeHold r j) := by
  unfold judgeHold
  split
  · exact judgementFits_deferred
  · exact h

theorem judgeEntry_fits {f : Frame} (hf : f.source ≠ own) : judgementFits own c (judgeEntry own c r f) := by
  unfold judgeEntry
  split
  · split
    · exact judgementFits_ignore _
    · exact judgeHold_fits (judgePublication_fits hf)
  · split
    · exact judgementFits_ignore _
    · split
      · exact judgeHold_fits judgeYieldToSelf_fits
      · next hn => exact judgeHold_fits (judgePublication_fits hn)
  · exact judgeHold_fits judgePull_fits
  · exact judgeHold_fits judgeClaim_fits
  · simp [judgementFits]

end

/-- The verdict on a frame of another station fits the state it is fixed in. -/
theorem verdictOn_fits {s : State} {f : Frame} (hf : f.source ≠ s.own) : verdictFits s (verdictOn s f) := by
  have fits : (judge s f).effective ≠ some s.own ∧ ∀ i, entryFor s f = some i →
      (judge s f).verdict = .cede ∨ (judge s f).verdict = .assume ∨ (judge s f).verdict = .depose →
      (s.cfg i).movable = true := by
    unfold judge entryFor
    split
    · simp
    all_goals
      split
      · next unheld => simp [unheld, ignoreWith]
      · next j found =>
        have := judgeEntry_fits (c := s.cfg j) (r := s.rt j) hf
        refine ⟨this.1, fun i hi => ?_⟩
        rw [found] at hi
        cases hi
        exact this.2
  refine ⟨fun p hp => ?_, fits.2⟩
  rw [← State.own_of_params hp]
  exact ⟨hf, fits.1⟩

theorem verdictFits_congr {s t : State} {v : VerdictRecord} (params : t.params = s.params)
    (cfg : ∀ i, t.cfg i = s.cfg i) : verdictFits t v ↔ verdictFits s v := by
  unfold verdictFits
  rw [params]
  simp only [cfg]

theorem verdictLaw_of_none {s : State} (h : s.verdict = none) : verdictLaw s := fun v hv => by rw [h] at hv; cases hv

theorem Steady.verdictLaw {s t : State} (h : Steady s t) (hv : verdictLaw s) : verdictLaw t := by
  rcases h.verdict with same | gone
  · exact fun v hs => (verdictFits_congr h.params h.cfg).2 (hv v (same ▸ hs))
  · exact verdictLaw_of_none gone

theorem exec_keeps_verdictLaw {c : Instr} {s : State} (h : verdictLaw s) (hq : configuringLaw s) :
    Leads verdictLaw (exec c s) := by
  have dormant := (configuringLaw_iff s).1 hq
  by_cases hs : setsUp c = false
  · exact (exec_steady hs).imp fun t ht => ht.verdictLaw h
  cases c with
  | setStation ops =>
    refine execSetStation_cases.imp ?_
    rintro t (⟨st, rfl⟩ | ⟨hc, p, rfl⟩)
    · exact h
    · exact verdictLaw_of_none (dormant hc).verdict
  | setItem ops =>
    refine execSetItem_cases.imp ?_
    rintro t (⟨st, rfl⟩ | ⟨hc, i, c, -, -, rfl⟩)
    · exact h
    · exact verdictLaw_of_none (dormant hc).storeItem.verdict
  | restart ops => exact leads_done.2 (verdictLaw_of_none rfl)
  | fullReset => exact leads_done.2 (verdictLaw_of_none rfl)
  | frameVerdictPoint levels =>
    have sampled : Steady s (sampleOn s levels .window) := (Steady.refl s).sampleOn
    refine execFrameVerdictPoint_cases.imp ?_
    rintro t (ht | ⟨f, hf, rfl⟩)
    · exact ht.verdictLaw h
    · rintro v ⟨⟩
      exact (verdictFits_congr sampled.params sampled.cfg).2 (verdictOn_fits hf)
  | _ => exact absurd rfl hs

/-! ### Every command keeps the laws of the tables -/

theorem ne_none_of_timerDue {now : Time} {x : Timer} (h : timerDue now x = true) : x ≠ none := by
  rintro rfl
  cases h

/-- The tables right after a reset of every entry. -/
theorem tables_of_reset {m : Prop} {s : State} (pulls : s.pulls = []) (rt : ∀ i, s.rt i = resetRuntime (s.cfg i))
    (cfg : m → ∀ i, configLaw (s.cfg i)) : Tables m s where
  count := by simp [pulls]
  nodup := by simp [pulls]
  entry i := by
    have laws : entryLawful m (ownNumber s) False (s.pulls.length = 8) (s.cfg i) (resetRuntime (s.cfg i)) :=
      .reset fun hm => cfg hm i
    rw [rt]
    exact laws.retable (by simp [recordedIn, pulls]) fun hw => (laws.unwanted hw).1

section
variable {m : Prop} {s : State} (h : Tables m s)
include h

theorem Tables.configLaw (hm : m) (i : EntryIx) : configLaw (s.cfg i) := by
  obtain ⟨config, -⟩ := (h.entry i).origin hm
  exact config

theorem Tables.sampleOn {levels : List Level} {phase : LiuPhase} : Tables m (sampleOn s levels phase) :=
  h.countJoinQuiet.of_eq rfl rfl rfl

theorem Tables.withLiu {l : Liu} : Tables m { s with liu := l } := h.of_eq rfl rfl rfl

theorem Tables.countGap {n : Nat} : Tables m (countGap s n) := by
  unfold Machine.countGap
  split
  · exact h.withLiu
  · exact h

theorem Tables.liuAfterOutcome {levels : List Level} {o : TxOutcome} {w : Option Window} :
    Tables m (liuAfterOutcome s levels o w) := by
  unfold Machine.liuAfterOutcome
  split
  · exact h.withLiu
  · exact h.withLiu
  all_goals exact h.betweenFrames

theorem Tables.senderFault {fl : InFlight} {levels : List Level} {k : FaultKind} :
    Tables m (senderFault s fl levels k) := h.of_eq rfl rfl rfl

theorem Tables.startStation : Tables m (startStation s) := by
  have rt : ∀ i, (Machine.startStation s).rt i = resetRuntime (s.cfg i) :=
    State.mapRt_rt s fun _ c _ => resetRuntime c
  have cfg : ∀ i, (Machine.startStation s).cfg i = s.cfg i := State.mapRt_cfg s fun _ c _ => resetRuntime c
  exact tables_of_reset rfl (fun i => by rw [rt, cfg]) fun hm i => by rw [cfg]; exact h.configLaw hm i

theorem Tables.clearRuntime : Tables m (clearRuntime s) :=
  tables_of_reset rfl (fun i => by rw [clearRuntime_rt, clearRuntime_cfg]) fun hm i => by
    rw [clearRuntime_cfg]; exact h.configLaw hm i

/-- Another own number, while no entry records a station. -/
theorem Tables.setParams (hd : Dormant s) (p : StationParams) : Tables m { s with params := some p } where
  count := h.count
  nodup := h.nodup
  entry i := by
    obtain ⟨laws, pull, mirror⟩ := h.entry i
    obtain ⟨source, yield, -⟩ := hd.absent i
    refine ⟨laws, pull, fun hm => ?_⟩
    obtain ⟨cfg, -, -, zero⟩ := mirror hm
    refine ⟨cfg, fun y hy => ?_, fun o ho => ?_, zero⟩
    · cases yield.symm.trans hy
    · cases source.symm.trans ho

/-- A stored entry is at reset values; no entry has a record. -/
theorem Tables.storeItem (hd : Dormant s) {i : EntryIx} {c : ItemConfig} (hc : Machine.configLaw c) :
    Tables m (storeItem s i c) := by
  refine h.of_entries (by simp [Machine.storeItem]) (by simp [Machine.storeItem]) fun j hj => ?_
  rw [storeItem_rt, storeItem_cfg]
  split
  · have laws : entryLawful m (ownNumber s) False (s.pulls.length = 8) c (resetRuntime c) := .reset fun _ => hc
    exact (laws.retable (by simp [recordedIn, hd.pulls]) fun hw => (laws.unwanted hw).1).defer _
  · exact hj.defer _

theorem Tables.exec_port {c : Instr} {ops : List Byte} (hq : configuringLaw s) (hc : operandsOf c = some ops) :
    Leads (Tables m) (exec c s) := by
  have dormant := (configuringLaw_iff s).1 hq
  have refused : ∀ ops st, Tables m (Machine.refuse s ops st) := fun _ _ => h.refuse
  cases c with
  | nop ops => exact leads_done.2 (h.of_eq rfl rfl rfl)
  | status ops => exact leads_done.2 (h.of_eq rfl rfl rfl)
  | nextNotice ops =>
    simp only [exec, execNextNotice]
    split
    · exact leads_done.2 (refused _ _)
    · next n rest _ =>
      have removed : Tables m { s with notices := rest } := h.of_eq rfl rfl rfl
      exact leads_done.2 removed.refillNotices.withReply
  | read ops => exact leads_done.2 (onEntry_of (refused _) fun _ _ => h.withReply)
  | readDelivery ops => exact leads_done.2 (onEntry_of (refused _) fun _ _ => h.withReply)
  | readRoster ops => exact leads_done.2 h.withReply
  | write ops =>
    refine leads_done.2 (onEntry_of (refused _) fun i _ => ?_)
    repeat' split
    · exact refused _ _
    · next hw =>
      refine Tables.withReply (h.modRt fun hi => ?_)
      unfold writeRuntime
      split
      · exact hi.publisherChange hw.1
      · exact hi.publisherChange hw.1
    · exact refused _ _
  | hold ops =>
    refine leads_done.2 (onEntry_of (refused _) fun i _ => ?_)
    split
    · next hr =>
      have same : (holdLimit s).2.entries = s.entries ∧ (holdLimit s).2.params = s.params ∧
          (holdLimit s).2.pulls = s.pulls := by
        unfold holdLimit; split <;> exact ⟨rfl, rfl, rfl⟩
      obtain ⟨entries, params, pulls⟩ := same
      have drawn : Tables m (holdLimit s).2 := h.of_eq params entries pulls
      exact (drawn.modRt fun hi => hi.hold (by rw [State.rt_congr entries]; exact hr.1) _).withReply
    · exact refused _ _
  | release ops =>
    refine leads_done.2 (onEntry_of (refused _) fun i _ => ?_)
    split
    · refine Tables.withReply (h.modRt fun hi => ?_)
      split
      · exact hi.unhold
      · exact hi
    · exact refused _ _
  | pull ops =>
    refine leads_done.2 (onEntry_of (refused _) fun i _ => ?_)
    split
    · next hr =>
      split
      · exact h.withReply
      · next hf =>
        split
        · next count =>
          have taken : Machine.takeAutoPull s i = addPull s i := by
            rw [Machine.takeAutoPull, if_pos hr.1, if_neg hf, if_pos count]
          exact (taken ▸ h.takeAutoPull).withReply
        · exact refused _ _
    · exact refused _ _
  | claim ops =>
    refine leads_done.2 (onEntry_of (refused _) fun i _ => ?_)
    split
    · next hr => exact (h.takeClaim hr.2.1 hr.1).withReply
    · exact refused _ _
  | setStation ops =>
    refine execSetStation_cases.imp ?_
    rintro t (⟨st, rfl⟩ | ⟨hc, p, rfl⟩)
    · exact refused _ _
    · exact (h.setParams (dormant hc) p).withReply
  | setItem ops =>
    refine execSetItem_cases.imp ?_
    rintro t (⟨st, rfl⟩ | ⟨hc, i, c, stored, -, rfl⟩)
    · exact refused _ _
    · exact (h.storeItem (dormant hc) (itemOperands_configLaw stored)).withReply
  | start ops =>
    simp only [exec, execStart]
    repeat' split
    · exact leads_done.2 (refused _ _)
    · exact leads_done.2 h.withReply
    · exact leads_done.2 h.startStation.withReply
  | stop ops =>
    simp only [exec, execStop]
    repeat' split
    · exact leads_done.2 (refused _ _)
    · exact leads_done.2 h.halt.withReply
    · exact leads_done.2 h.enterLeaving.withReply
  | rejoin ops =>
    simp only [exec, execRejoin]
    split
    · exact leads_done.2 h.leaveMuted.withReply
    · exact leads_done.2 (refused _ _)
  | restart ops => exact leads_done.2 h.clearRuntime.withReply
  | unknownCommandCode code ops => exact leads_done.2 (refused _ _)
  | _ => cases hc

/-- What happens on the line, and the running out of each timer. -/
theorem Tables.exec_happening {c : Instr} (hv : verdictLaw s) (hc : operandsOf c = none) :
    Leads (Tables m) (exec c s) := by
  have idle : Leads (Tables m) (done s) := leads_done.2 h
  cases c with
  | emptyTransaction => exact leads_done.2 (h.of_eq rfl rfl rfl)
  | fullReset =>
    refine leads_done.2 (Tables.of_eq (s := State.reset) (tables_of_reset rfl (fun i => ?_) fun _ i => ?_) rfl rfl rfl)
    · rw [State.reset_rt, State.reset_cfg]; rfl
    · rw [State.reset_cfg]; exact configLaw_unused
  | stationTimeTick => exact leads_done.2 (h.of_eq rfl rfl rfl)
  | lineFree n =>
    have counted := h.countGap (n := n)
    simp only [exec, execLineFree]
    split
    · exact leads_done.2 counted.withLiu
    · exact leads_done.2 counted
  | startBitCapture =>
    simp only [exec, execStartBitCapture]
    repeat' split
    · exact idle
    · exact leads_done.2 h.capture.withLiu
    · exact idle
  | frameVerdictPoint levels =>
    simp only [exec, execFrameVerdictPoint]
    repeat' split
    · exact idle
    · have sampled : Tables m (Machine.sampleOn s levels .window) := h.sampleOn
      exact leads_done.2 (sampled.of_eq rfl rfl rfl)
    · exact leads_done.2 h.sampleOn
    · exact idle
    · exact idle
  | receivedFrameCompletion levels =>
    simp only [exec, execReceivedFrameCompletion]
    split
    · split
      · exact idle
      · next v hs =>
        have fits : ∀ w, verdictFits (Machine.betweenFrames (Machine.countJoinQuiet s levels) w) v := fun w =>
          (verdictFits_congr (by simp) (by simp)).2 (hv v hs)
        repeat' split
        · exact leads_done.2 (h.countJoinQuiet.betweenFrames.presentCompletion (fits _))
        · exact idle
        · exact leads_done.2 h.sampleOn
        · exact idle
    · exact idle
  | joinQuiet n =>
    have counted := h.countGap (n := n)
    simp only [exec, execJoinQuiet]
    repeat' split
    · exact leads_done.2 counted.withLiu.enterOnline
    · exact leads_done.2 counted.withLiu
    · exact idle
  | ownFrameOutcome levels =>
    simp only [exec, execOwnFrameOutcome]
    repeat' split
    · exact idle
    · exact leads_done.2 h.handleOutcome
    · exact idle
    · exact leads_done.2 h.liuAfterOutcome.handleOutcome
    · exact leads_done.2 h.sampleOn
    · exact idle
    · exact idle
  | faultFound levels =>
    simp only [exec, execFaultFound]
    repeat' split
    · exact idle
    · exact idle
    · exact leads_done.2 h.senderFault
    · exact idle
    · exact leads_done.2 h.receiverFault
    · exact idle
  | lineRecovered levels =>
    simp only [exec, execLineRecovered]
    repeat' split
    · exact leads_done.2 h.countJoinQuiet.withLiu
    · exact idle
    · exact leads_done.2 h.countJoinQuiet.betweenFrames
    · exact leads_done.2 h.countJoinQuiet.withLiu
    · exact idle
  | silentFrameEnd levels =>
    simp only [exec, execSilentFrameEnd]
    repeat' split
    · exact leads_done.2 h.countJoinQuiet.betweenFrames
    · exact leads_done.2 h.sampleOn
    · exact idle
    · exact idle
  | duplicateSighting levels =>
    simp only [exec, execDuplicateSighting]
    split
    · exact leads_done.2 h.setFlag.halt
    · exact idle
  | startBitOfAnotherStation =>
    simp only [exec, execStartBitOfAnotherStation]
    split
    · exact leads_done.2 h.withLiu
    · exact idle
  | periodTimerExpiry i =>
    simp only [exec, execPeriodTimerExpiry]
    split
    · next due =>
      have hr := (h.entry i).publisher_of_periodTimer (ne_none_of_timerDue due)
      have raised : ((Machine.raisePublish s i).rt i).role = .publisher := by simp [Machine.raisePublish, hr]
      exact leads_done.2 (h.raisePublish.modRt fun hi => hi.publisherChange raised)
    · exact idle
  | inhibitTimerExpiry i =>
    simp only [exec, execInhibitTimerExpiry]
    split
    · exact leads_done.2 (h.modRt fun hi => hi.stopInhibit)
    · exact idle
  | freshnessTimerExpiry i =>
    simp only [exec, execFreshnessTimerExpiry]
    split
    · next due => exact leads_done.2 (h.modRt fun hi => hi.goStale (ne_none_of_timerDue due)).post.requestAutoPull
    · exact idle
  | holdTimerExpiry i =>
    simp only [exec, execHoldTimerExpiry]
    split
    · exact leads_done.2 (h.modRt fun hi => hi.unhold).post
    · exact idle
  | claimTimerExpiry i =>
    simp only [exec, execClaimTimerExpiry]
    split
    · next due => exact leads_done.2 (h.endClaim ((h.entry i).claiming_of_claimTimer (ne_none_of_timerDue due)))
    · exact idle
  | pullReplyTimerExpiry i =>
    simp only [exec, execPullReplyTimerExpiry]
    split
    · exact idle
    · next p hp =>
      repeat' split
      · exact leads_done.2 (h.keepPull (fun _ => rfl) (recordedIn_of_findPull hp))
      · exact leads_done.2 h.pullUnanswered
      · exact idle
  | silenceTimerExpiry st =>
    simp only [exec, execSilenceTimerExpiry]
    split
    · exact leads_done.2 h.setRecord.orphanAndReport
    · exact idle
  | ownAnnounceTimerExpiry =>
    simp only [exec, execOwnAnnounceTimerExpiry]
    split
    · exact leads_done.2 h.raiseAnnounce.restartAnnounceTimer
    · exact idle
  | _ => cases hc

end

/-- Every command keeps the laws of the tables, with what they rest on. -/
theorem exec_keeps_tables {m : Prop} {c : Instr} {s : State} (hq : configuringLaw s) (hv : verdictLaw s)
    (h : Tables m s) : Leads (fun t => configuringLaw t ∧ verdictLaw t ∧ Tables m t) (exec c s) := by
  have tables : Leads (Tables m) (exec c s) := by
    cases hc : operandsOf c with
    | none => exact h.exec_happening hv hc
    | some ops => exact h.exec_port hq hc
  exact fun t ht => ⟨exec_keeps_configuringLaw hq t ht, exec_keeps_verdictLaw hv hq t ht, tables t ht⟩

theorem step_keeps_tables {m : Prop} {s : State} (hq : configuringLaw s) (hv : verdictLaw s) (h : Tables m s) :
    Leads (fun t => configuringLaw t ∧ verdictLaw t ∧ Tables m t) (step s) :=
  step_leads ⟨hq, hv, h⟩ fun _ rest _ =>
    exec_keeps_tables (s := s.withPending rest) hq hv (h.of_eq rfl rfl rfl)

theorem tablesLawful_iff (s : State) : tablesLawful s ↔ configuringLaw s ∧ verdictLaw s ∧ Tables False s := by
  rw [tables_iff, tablesLawful]
  simp

theorem mirrorsLawful_iff (s : State) : mirrorsLawful s ↔ configuringLaw s ∧ verdictLaw s ∧ Tables True s := by
  rw [tables_iff, mirrorsLawful, tablesLawful]
  simp only [true_imp_iff, and_assoc]
  rfl

/-- Settles O57: the laws of both tables, those of mirrored values with them or not, are laws of each entry that every
change of an entry keeps (`entryLawful`), and the commands make no other change. -/
theorem itemPullAndMirrorLawsAreKept : Obligations.ItemPullAndMirrorLawsAreKept := by
  refine ⟨fun s t h => ?_, fun s t h => ?_⟩
  · obtain ⟨hq, hv, tables⟩ := (tablesLawful_iff s).1 h
    exact fun ht => (tablesLawful_iff t).2 (step_keeps_tables hq hv tables t ht)
  · obtain ⟨hq, hv, tables⟩ := (mirrorsLawful_iff s).1 h
    exact fun ht => (mirrorsLawful_iff t).2 (step_keeps_tables hq hv tables t ht)

end Sys2Proof.Machine
end

section
/-! SUPPORT. Single operations: timers that are not due (R13) and the changes of role (R15 to R18). -/

namespace Sys2Proof.Machine

/-! ### Timers (R13) -/

/-- A timer is due where it runs and its duration has passed. -/
theorem timerDue_eq_false (now : Time) (x : Timer) : timerDue now x = false ↔
    ∀ r, x = some r → (now.toNat + 4294967296 - r.started.toNat) % 4294967296 < r.duration := by
  cases x with
  | none => simp
  | some r => rw [← Bool.not_eq_true, timerDue_some]; simp

/-- Settles O24: every expiry first asks whether its timer is due. -/
theorem timersNotDueDoNotRunOut : Obligations.TimersNotDueDoNotRunOut := by
  intro s notDue meaning
  have idle : ∀ x, notDue x → timerDue s.time x = false := fun x hx => (timerDue_eq_false s.time x).2 ((meaning x).1 hx)
  refine ⟨fun i => ⟨?_, ?_, ?_, ?_, ?_, ?_⟩, fun st => ?_, ?_⟩
  · intro h; simp [exec, execPeriodTimerExpiry, idle _ h, done]
  · intro h; simp [exec, execInhibitTimerExpiry, idle _ h, done]
  · intro h; simp [exec, execFreshnessTimerExpiry, idle _ h, done]
  · intro h; simp [exec, execHoldTimerExpiry, idle _ h, done]
  · intro h; simp [exec, execClaimTimerExpiry, idle _ h, done]
  · intro h
    simp only [exec, execPullReplyTimerExpiry]
    split
    · rfl
    · next p hp =>
      obtain ⟨mem, entry⟩ := findPull_spec hp
      rw [idle _ (h p mem entry)]
      rfl
  · intro h; simp [exec, execSilenceTimerExpiry, idle _ h, done]
  · intro h; simp [exec, execOwnAnnounceTimerExpiry, idle _ h, done]

/-! ### Changes of role (R15 to R18, R116, R121) -/

theorem periodOnEntry_eq (s : State) (c : ItemConfig) : periodOnEntry s c =
    if c.periodic = true ∧ s.lifecycle = .online then some ⟨s.time, c.period⟩ else none := rfl

/-- The end of a claim: the entry's fields, the posting, and the auto-pull by the mirror state (R18). -/
theorem endClaim_eq (s : State) (i : EntryIx) (reason : Reason) {u : State}
    (hu : u = post (s.modRt i fun r => { r with
      role := .subscriber, claim := none, claimTimer := none, pullWanted := false
      pending := { r.pending with claim := false }
      freshTimer := if r.mirror = some .fresh then freshnessOf s.time (s.cfg i) else r.freshTimer }) i reason.alone) :
    endClaim s i reason = if (s.cfg i).autoPull = true
        ∧ ((s.rt i).mirror = some .stale ∨ (s.rt i).mirror = some .orphaned)
      then takeAutoPull u i else u := by
  have mirror : (u.rt i).mirror = (s.rt i).mirror := by rw [hu, post_rt, State.modRt_rt_self]
  have cfg : u.cfg i = s.cfg i := by rw [hu, post_cfg, State.modRt_cfg]
  have ended : endClaim s i reason = if (u.rt i).mirror = some .stale ∨ (u.rt i).mirror = some .orphaned
      then requestAutoPull u i else u := by rw [hu]; rfl
  rw [ended, mirror, requestAutoPull, cfg]
  by_cases hp : (s.cfg i).autoPull = true <;> simp [hp]

/-- Settles O38: each change of role is one change of the entry's fields, with the removal of its record before it and
its posting after it; `enterPublisher` reads the period after the removal, which leaves what it reads. -/
theorem roleChangesSetTheFields : Obligations.RoleChangesSetTheFields := by
  rintro s i period rfl fresh rfl
  refine ⟨?_, rfl, fun _ => rfl, rfl, fun _ _ _ _ => rfl, fun reason u hu => endClaim_eq s i reason hu⟩
  rintro g v storage u rfl
  have kept : periodOnEntry (removePull s i) ((removePull s i).cfg i) = periodOnEntry s (s.cfg i) := by
    simp [periodOnEntry]
  rw [← periodOnEntry_eq, ← kept]
  rfl

end Sys2Proof.Machine
end

section
/-! SUPPORT. The operand layout of SET-ITEM is that of its reply: each field of a stored configuration part is read back
from the bytes it is reported in (R178, R188). -/

namespace Sys2Proof.Machine

/-! ### Numbers and fields as bytes -/

/-- Two bytes most significant first hold a 16-bit number. -/
theorem word16_bytes16 {n : Nat} (h : n ≤ 65535) :
    (BitVec.ofNat 8 (n / 256)).toNat * 256 + (BitVec.ofNat 8 n).toNat = n := by
  simp only [BitVec.toNat_ofNat]
  omega

/-- Four bytes most significant first hold a 32-bit field. -/
theorem word32_bytes32 (x : BitVec 32) :
    x.extractLsb' 24 8 ++ x.extractLsb' 16 8 ++ x.extractLsb' 8 8 ++ x.extractLsb' 0 8 = x := by
  ext k hk
  simp only [BitVec.getElem_append, BitVec.getElem_extractLsb']
  grind

theorem ConfigRole.ofCode_code (r : ConfigRole) : ConfigRole.ofCode r.code = some r := by
  cases r <;> rfl

theorem itemClassOf_byte {cls : FrameClass} (h : cls ≠ .system) : itemClassOf cls.byte = some cls := by
  cases cls with
  | system => exact absurd rfl h
  | urgent => rfl
  | normal => rfl
  | bulk => rfl

/-- Each option of the options byte is its own bit. -/
theorem optionsByte_bits (c : ItemConfig) :
    (optionsByte c).getLsbD 0 = c.movable ∧ (optionsByte c).getLsbD 1 = c.onWrite ∧
    (optionsByte c).getLsbD 2 = c.periodic ∧ (optionsByte c).getLsbD 3 = c.autoPull := by
  unfold optionsByte
  cases c.movable <;> cases c.onWrite <;> cases c.periodic <;> cases c.autoPull <;> decide

/-! ### Operands that spell a configuration part -/

/-- The operand bytes hold the fields of `c` at their positions (R188). -/
structure Spells (ops : List Byte) (c : ItemConfig) : Prop where
  role : byteAt ops 2 = c.role.code
  key : word16At ops 3 = c.key.toNat
  cls : byteAt ops 5 = c.cls.byte
  length : (byteAt ops 6).toNat = c.length
  options : byteAt ops 7 = optionsByte c
  period : word16At ops 8 = c.period
  inhibit : word16At ops 10 = c.inhibit
  required : word32At ops 12 = c.required
  attemptLimit : (byteAt ops 16).toNat = c.attemptLimit
  freshness : word16At ops 17 = c.freshness
  initial : bytesFrom ops 19 c.length = c.initial

/-- The bytes of the reply after its status byte, in order. -/
theorem itemReply_tail (i : EntryIx) (c : ItemConfig) : (itemReply i c).tail =
    [entryByte i, c.role.code, BitVec.ofNat 8 (c.key.toNat / 256), BitVec.ofNat 8 c.key.toNat, c.cls.byte,
      BitVec.ofNat 8 c.length, optionsByte c, BitVec.ofNat 8 (c.period / 256), BitVec.ofNat 8 c.period,
      BitVec.ofNat 8 (c.inhibit / 256), BitVec.ofNat 8 c.inhibit, c.required.extractLsb' 24 8,
      c.required.extractLsb' 16 8, c.required.extractLsb' 8 8, c.required.extractLsb' 0 8,
      BitVec.ofNat 8 c.attemptLimit, BitVec.ofNat 8 (c.freshness / 256), BitVec.ofNat 8 c.freshness] ++ c.initial := rfl

section
variable {c : ItemConfig} (hc : c.stored)
include hc

/-- A field that an entry does not carry for want of a publisher's part is stored as zero (R5). -/
theorem ItemConfig.stored.publisherFields : let carries := decide (c.role = .publisher) || c.movable
    (carries && c.onWrite) = c.onWrite ∧ (carries && c.periodic) = c.periodic ∧
    (if carries = true then c.inhibit else 0) = c.inhibit ∧
    (if carries = true then c.required else 0) = c.required := by
  obtain ⟨-, -, -, -, absent, -⟩ := hc
  by_cases carries : c.role = .publisher ∨ c.movable = true
  · have : (decide (c.role = .publisher) || c.movable) = true := by simpa using carries
    simp [this]
  · obtain ⟨onWrite, periodic, inhibit, required⟩ := absent carries
    simp [onWrite, periodic, inhibit, required]

/-- The same for want of a subscriber's part. -/
theorem ItemConfig.stored.subscriberFields : let carries := decide (c.role = .subscriber) || c.movable
    (if carries = true then c.freshness else 0) = c.freshness ∧ (carries && c.autoPull) = c.autoPull := by
  obtain ⟨-, -, -, -, -, -, -, -, -, absent, -⟩ := hc
  by_cases carries : c.role = .subscriber ∨ c.movable = true
  · have : (decide (c.role = .subscriber) || c.movable) = true := by simpa using carries
    simp [this]
  · obtain ⟨freshness, autoPull⟩ := absent carries
    simp [freshness, autoPull]

/-- A period and an attempt limit are stored where they are carried. -/
theorem ItemConfig.stored.dependentFields :
    (if c.periodic = true then c.period else 0) = c.period ∧
    (if c.required ≠ 0 then c.attemptLimit else 0) = c.attemptLimit := by
  obtain ⟨-, -, -, -, -, period, -, attempts, -⟩ := hc
  constructor
  · split at period <;> simp_all
  · split at attempts <;> simp_all

/-- SET-ITEM stores a part it is sent in the form it stores. -/
theorem itemOperands_of_spells {ops : List Byte} (h : Spells ops c) : itemOperands ops = some c := by
  obtain ⟨onWrite, periodic, inhibit, required⟩ := hc.publisherFields
  obtain ⟨freshness, autoPull⟩ := hc.subscriberFields
  obtain ⟨period, attemptLimit⟩ := hc.dependentFields
  obtain ⟨bit0, bit1, bit2, bit3⟩ := optionsByte_bits c
  obtain ⟨used, keyLow, cls, length, -, periods, inhibits, attempts, initials, -⟩ := hc
  have keyHigh := c.key.isLt
  have initial :
      (if c.role = .publisher then bytesFrom ops 19 c.length else List.replicate c.length 0) = c.initial := by
    split at initials
    · next hr => rw [if_pos hr, h.initial]
    · next hr => rw [if_neg hr, initials]
  have ranges : (64 ≤ c.key.toNat ∧ c.key.toNat ≤ 4095) ∧ c.length ≤ 12 ∧ (c.periodic = true → 1 ≤ c.period) ∧
      ((decide (c.role = .publisher) || c.movable) = true → c.inhibit ≤ 1000) ∧
      (c.required ≠ 0 → 1 ≤ c.attemptLimit ∧ c.attemptLimit ≤ 15) := by
    refine ⟨⟨keyLow, by omega⟩, length, fun hp => ?_, fun _ => inhibits, fun hr => ?_⟩
    · rw [if_pos hp] at periods; exact periods.1
    · rw [if_neg hr] at attempts; exact attempts
  unfold itemOperands
  rw [h.role, ConfigRole.ofCode_code]
  split
  · next hr => cases hr
  · next hr => exact absurd (Option.some.inj hr) used
  · next role _ hr =>
    cases hr
    simp only [h.key, h.cls, h.length, h.options, h.period, h.inhibit, h.required, h.attemptLimit, h.freshness,
      itemClassOf_byte cls, bit0, bit1, bit2, bit3, onWrite, periodic, inhibit, required, freshness, autoPull, period,
      attemptLimit, initial, BitVec.ofNat_toNat, BitVec.setWidth_eq]
    rw [if_pos ranges]

/-! ### The reply as operands -/

theorem itemReply_initial_length : c.initial.length = c.length := by
  obtain ⟨-, -, -, -, -, -, -, -, initial, -⟩ := hc
  split at initial
  · exact initial
  · rw [initial, List.length_replicate]

theorem itemReply_length (i : EntryIx) : (itemReply i c).length = 19 + c.length := by
  simp [itemReply, bytes16, bytes32, itemReply_initial_length hc]
  omega

/-- The reply after its status byte holds every field where SET-ITEM takes it from. -/
theorem spells_itemReply (i : EntryIx) (extra : List Byte) : Spells ((itemReply i c).tail ++ extra) c := by
  have initial := itemReply_initial_length hc
  obtain ⟨-, -, -, length, -, period, inhibit, attempts, -, -, freshness⟩ := hc
  have key := c.key.isLt
  have periods : c.period ≤ 65535 := by split at period <;> omega
  have limit : c.attemptLimit ≤ 15 := by split at attempts <;> omega
  rw [itemReply_tail]
  constructor
  case role | cls | options =>
    simp only [byteAt, List.cons_append, Nat.reduceSub, List.getD_cons_succ, List.getD_cons_zero]
  case key | period | inhibit | freshness =>
    simp only [word16At, byteAt, List.cons_append, Nat.reduceSub, Nat.reduceAdd, List.getD_cons_succ,
      List.getD_cons_zero]
    exact word16_bytes16 (by omega)
  case length | attemptLimit =>
    simp only [byteAt, List.cons_append, Nat.reduceSub, List.getD_cons_succ, List.getD_cons_zero, BitVec.toNat_ofNat]
    omega
  case required =>
    simp only [word32At, byteAt, List.cons_append, Nat.reduceSub, Nat.reduceAdd, List.getD_cons_succ,
      List.getD_cons_zero]
    exact word32_bytes32 c.required
  case initial =>
    refine List.ext_getElem (by simp [bytesFrom, initial]) fun k _ hk => ?_
    simp only [bytesFrom, List.getElem_map, List.getElem_range, byteAt]
    rw [show 19 + k - 1 = k + 18 by omega]
    simp only [List.cons_append, List.nil_append, List.getD_cons_succ]
    rw [List.getD_append _ _ _ _ hk, List.getD_eq_getElem _ _ hk]

end

/-- SET-ITEM stores what operands of enough bytes name, under a free key (R158). -/
theorem execSetItem_stores {s : State} {i : EntryIx} {rest : List Byte} {c : ItemConfig}
    (enough : itemBytesNeeded (entryByte i :: rest) ≤ (entryByte i :: rest).length) (hl : s.lifecycle = .configuring)
    (operands : itemOperands (entryByte i :: rest) = some c) (free : keyTaken s i c = false) :
    execSetItem (entryByte i :: rest) s
      = done (withReply s (entryByte i :: rest) (storeItem s i c) (itemReply i c)) := by
  have below : (entryByte i).toNat < 128 := by rw [entryByte_toNat]; exact i.isLt
  have named : (⟨(entryByte i).toNat, below⟩ : EntryIx) = i := Fin.ext (entryByte_toNat i)
  simp only [execSetItem]
  rw [dif_pos below, if_neg (Nat.not_lt.2 enough), if_neg (not_not.2 hl)]
  simp only [operands, named, free, Bool.false_eq_true, if_false]

theorem keyTaken_eq_false {s : State} {i : EntryIx} {c : ItemConfig}
    (free : ∀ j, j ≠ i → (s.cfg j).role ≠ .unused → (s.cfg j).key ≠ c.key) : keyTaken s i c = false := by
  simp only [keyTaken, Bool.and_eq_false_iff, List.any_eq_false]
  right
  intro j _
  simpa using free j

/-- Settles O18: the reply spells the part (`spells_itemReply`), and a part so spelled is stored
(`itemOperands_of_spells`). -/
theorem setItemReadsBackItsReply : Obligations.SetItemReadsBackItsReply := by
  intro s i c extra hc hl free
  have length := itemReply_length hc i
  have spelled := spells_itemReply hc i extra
  have short : c.length ≤ 12 := by obtain ⟨-, -, -, length, -⟩ := hc; exact length
  have enough : itemBytesNeeded ((itemReply i c).tail ++ extra) ≤ ((itemReply i c).tail ++ extra).length := by
    rw [itemBytesNeeded, spelled.length, if_pos short, List.length_append, List.length_tail, length]
    omega
  exact ⟨length, storeItem s i c,
    execSetItem_stores enough hl (itemOperands_of_spells hc spelled) (keyTaken_eq_false free),
    by rw [storeItem_cfg, if_pos rfl]⟩

end Sys2Proof.Machine
end

section
/-! SUPPORT. Numbers as bits and the fields read from them, the beats between the bits of a span, and the span of a frame:
what each of its fields reads as (R20 to R24). -/

namespace Sys2Proof.Machine

/-! ### Numbers as bits (R20) -/

@[simp] theorem length_natBits (n v : Nat) : (natBits n v).length = n := by
  induction n with
  | zero => rfl
  | succ n ih => simp [natBits, ih]

theorem bitsNat_foldl (bs : List Bool) (acc : Nat) :
    bs.foldl (fun acc b => 2 * acc + b.toNat) acc = acc * 2 ^ bs.length + bitsNat bs := by
  induction bs generalizing acc with
  | nil => simp [bitsNat]
  | cons b bs ih =>
    rw [bitsNat, List.foldl_cons, ih, List.foldl_cons, ih (2 * 0 + b.toNat), List.length_cons]
    ring

theorem bitsNat_cons (b : Bool) (bs : List Bool) : bitsNat (b :: bs) = b.toNat * 2 ^ bs.length + bitsNat bs := by
  rw [bitsNat, List.foldl_cons, bitsNat_foldl]
  simp

theorem mod_two_pow_succ (v n : Nat) : v % 2 ^ (n + 1) = v % 2 ^ n + 2 ^ n * (v.testBit n).toNat := by
  rw [Nat.mod_pow_succ, Nat.toNat_testBit]

@[simp] theorem bitsNat_natBits (n v : Nat) : bitsNat (natBits n v) = v % 2 ^ n := by
  induction n with
  | zero => simp [natBits, bitsNat, Nat.mod_one]
  | succ n ih => rw [natBits, bitsNat_cons, ih, length_natBits, mod_two_pow_succ]; ring

/-- The bits of two numbers in a row are those of one. -/
theorem natBits_append (a b u v : Nat) (h : v < 2 ^ b) : natBits a u ++ natBits b v = natBits (a + b) (u * 2 ^ b + v) := by
  induction a with
  | zero =>
    have low : ∀ n ≤ b, natBits n v = natBits n (u * 2 ^ b + v) := by
      intro n hn
      induction n with
      | zero => rfl
      | succ n ih =>
        rw [natBits, natBits, ih (by omega), Nat.mul_comm, Nat.testBit_two_pow_mul_add _ h, if_pos (by omega)]
    simpa [natBits] using low b le_rfl
  | succ a ih =>
    rw [natBits, List.cons_append, ih, Nat.succ_add, natBits, Nat.mul_comm u, Nat.testBit_two_pow_mul_add _ h,
      if_neg (by omega), Nat.add_sub_cancel]

/-- Of two numbers the lower has a 0 bit where their bits first differ. -/
theorem natBits_first_difference {n u v : Nat} (h : u % 2 ^ n < v % 2 ^ n) :
    ∃ p x y, natBits n u = p ++ false :: x ∧ natBits n v = p ++ true :: y := by
  induction n with
  | zero => simp [Nat.mod_one] at h
  | succ n ih =>
    rw [mod_two_pow_succ, mod_two_pow_succ] at h
    have hu := Nat.mod_lt u (Nat.two_pow_pos n)
    have hv := Nat.mod_lt v (Nat.two_pow_pos n)
    rcases eu : u.testBit n <;> rcases ev : v.testBit n <;> simp [eu, ev] at h
    · obtain ⟨p, x, y, hx, hy⟩ := ih h
      exact ⟨false :: p, x, y, by simp [natBits, eu, hx], by simp [natBits, ev, hy]⟩
    · exact ⟨[], natBits n u, natBits n v, by simp [natBits, eu], by simp [natBits, ev]⟩
    · omega
    · obtain ⟨p, x, y, hx, hy⟩ := ih h
      exact ⟨true :: p, x, y, by simp [natBits, eu, hx], by simp [natBits, ev, hy]⟩

/-! ### Fields of a span -/

theorem fieldAt_here (n v : Nat) (t : List Bool) : fieldAt (natBits n v ++ t) 0 n = v % 2 ^ n := by
  simp [fieldAt]

theorem fieldAt_last (n v : Nat) : fieldAt (natBits n v) 0 n = v % 2 ^ n := by
  simp [fieldAt, List.take_of_length_le]

theorem fieldAt_skip {n offset : Nat} (h : n ≤ offset) (v : Nat) (t : List Bool) (width : Nat) :
    fieldAt (natBits n v ++ t) offset width = fieldAt t (offset - n) width := by
  rw [fieldAt, List.drop_append, length_natBits, List.drop_of_length_le (by simpa using h), List.nil_append, fieldAt]

theorem fieldAt_cons {offset : Nat} (h : 0 < offset) (b : Bool) (t : List Bool) (width : Nat) :
    fieldAt (b :: t) offset width = fieldAt t (offset - 1) width := by
  obtain ⟨k, rfl⟩ := Nat.exists_eq_succ_of_ne_zero h.ne'
  simp [fieldAt]

/-- A field of a span is read as soon as its last bit has been sampled. -/
theorem fieldAt_take {offset width n : Nat} (h : offset + width ≤ n) (span : List Bool) :
    fieldAt (span.take n) offset width = fieldAt span offset width := by
  rw [fieldAt, List.drop_take, List.take_take, Nat.min_eq_left (by omega), fieldAt]

/-- A field that does not hold the place is read alike whatever bit stands there. -/
theorem fieldAt_set {offset width i : Nat} (h : i < offset ∨ offset + width ≤ i) (span : List Bool) (b : Bool) :
    fieldAt (span.set i b) offset width = fieldAt span offset width := by
  rw [fieldAt, List.drop_set, fieldAt]
  split
  · rfl
  · rw [List.take_set_of_le (by omega)]

theorem fieldAt_append {offset width : Nat} {span : List Bool} (h : offset + width ≤ span.length) (t : List Bool) :
    fieldAt (span ++ t) offset width = fieldAt span offset width := by
  rw [← fieldAt_take h (span ++ t), List.take_left]

theorem payloadAt_append (p : List Byte) (before after : List Bool) :
    payloadAt (before ++ (payloadBits p ++ after)) before.length p.length = p := by
  induction p generalizing before with
  | nil => rfl
  | cons x p ih =>
    have byte : fieldAt (before ++ (payloadBits (x :: p) ++ after)) before.length 8 = x.toNat := by
      rw [fieldAt, List.drop_left, payloadBits, List.flatMap_cons, List.append_assoc,
        List.take_append_of_le_length (by simp), List.take_of_length_le (by simp), bitsNat_natBits]
      have := x.isLt
      omega
    have rest := ih (before ++ natBits 8 x.toNat)
    rw [List.length_append, length_natBits] at rest
    rw [List.length_cons, payloadAt, byte, BitVec.ofNat_toNat, BitVec.setWidth_eq]
    rw [payloadBits, List.flatMap_cons, ← payloadBits, List.append_assoc, ← List.append_assoc before, rest]

theorem length_payloadBits (p : List Byte) : (payloadBits p).length = 8 * p.length := by
  induction p with
  | nil => rfl
  | cons x p ih => rw [payloadBits, List.flatMap_cons, ← payloadBits, List.length_append, ih, length_natBits, List.length_cons]; ring

/-! ### Beats (R22) -/

theorem length_insertBeats {k : Nat} (hk : k < 8) (bs : List Bool) :
    (insertBeats k bs).length = bs.length + (bs.length + k) / 8 := by
  induction bs generalizing k with
  | nil => simp [insertBeats]; omega
  | cons b bs ih =>
    rw [insertBeats]
    split
    · subst k; simp only [List.length_cons, ih (k := 0) (by omega)]; omega
    · simp only [List.length_cons, ih (k := k + 1) (by omega)]; omega

theorem insertBeats_append {k : Nat} (hk : k < 8) (a b : List Bool) :
    insertBeats k (a ++ b) = insertBeats k a ++ insertBeats ((k + a.length) % 8) b := by
  induction a generalizing k with
  | nil => simp [insertBeats, Nat.mod_eq_of_lt hk]
  | cons x a ih =>
    rw [List.cons_append, insertBeats, insertBeats]
    split
    · subst k; rw [ih (by omega)]; simp only [List.cons_append, List.length_cons]; congr 3; congr 1; omega
    · rw [ih (by omega)]; simp only [List.cons_append, List.length_cons]; congr 2; congr 1; omega

/-- The next bit follows the bits before it and their beats. -/
theorem insertBeats_getElem? {k : Nat} (hk : k < 8) (bs : List Bool) (i : Nat) :
    i < bs.length → (insertBeats k bs)[i + (i + k) / 8]? = bs[i]? := by
  intro hi
  have split : bs = bs.take i ++ bs[i] :: bs.drop (i + 1) := by rw [List.getElem_cons_drop, List.take_append_drop]
  have len : (insertBeats k (bs.take i)).length = i + (i + k) / 8 := by
    rw [length_insertBeats hk, List.length_take, Nat.min_eq_left hi.le]
  rw [split, insertBeats_append hk, List.getElem?_append_right (by omega), len, ← split, Nat.sub_self, insertBeats]
  split <;> simp [hi]

end Sys2Proof.Machine
end

section
/-! SUPPORT. The span of a frame: what each of its fields reads as, how far a span tells its own length, which of its bits
show an irregularity, and that no bit of an allowed frame does (R21 to R24). -/

namespace Sys2Proof.Machine

/-! ### The fields of a header (R21) -/

@[simp] theorem length_headerBits (cls key kind source : Nat) : (headerBits cls key kind source).length = 22 := by
  simp [headerBits]

/-- The fields of a header of numbers in their ranges, whatever follows it. -/
theorem fieldAt_headerBits {cls key kind source : Nat} (hc : cls < 4) (hk : key < 4096) (hd : kind < 8)
    (hs : source < 32) (t : List Bool) :
    fieldAt (headerBits cls key kind source ++ t) 0 2 = cls ∧ fieldAt (headerBits cls key kind source ++ t) 2 12 = key ∧
    fieldAt (headerBits cls key kind source ++ t) 14 3 = kind ∧
    fieldAt (headerBits cls key kind source ++ t) 17 5 = source := by
  simp only [headerBits, List.append_assoc]
  refine ⟨?_, ?_, ?_, ?_⟩ <;>
    simp only [fieldAt_skip (show 2 ≤ 2 by omega), fieldAt_skip (show 2 ≤ 14 by omega), fieldAt_skip (show 2 ≤ 17 by omega),
      fieldAt_skip (show 12 ≤ 12 by omega), fieldAt_skip (show 12 ≤ 15 by omega), fieldAt_skip (show 3 ≤ 3 by omega),
      Nat.reduceSub, fieldAt_here] <;> omega

theorem fieldAt_after_header {offset : Nat} (h : 22 ≤ offset) (cls key kind source : Nat) (t : List Bool) (width : Nat) :
    fieldAt (headerBits cls key kind source ++ t) offset width = fieldAt t (offset - 22) width := by
  rw [fieldAt, List.drop_append, length_headerBits, List.drop_of_length_le (by simpa using h), List.nil_append, fieldAt]

/-! ### What a span sampled so far shows, by the fields of the whole (R21, R22, R24) -/

/-- The length is told by the kind, and in PUBLISH and YIELD by the length field. -/
theorem spanLength_take {span : List Bool} {n : Nat} (hn : n ≤ span.length) : spanLength (span.take n) =
    if n < 17 then none
    else if fieldAt span 14 3 = 0 then
      if 50 ≤ n ∧ fieldAt span 46 4 ≤ 12 then some (66 + 8 * fieldAt span 46 4) else none
    else if fieldAt span 14 3 = 1 then some 50
    else if fieldAt span 14 3 = 2 then
      if 42 ≤ n ∧ fieldAt span 38 4 ≤ 12 then some (58 + 8 * fieldAt span 38 4) else none
    else if fieldAt span 14 3 = 3 then some 38
    else if fieldAt span 14 3 = 4 then some 46
    else none := by
  unfold spanLength
  rw [List.length_take, Nat.min_eq_left hn]
  split
  · rfl
  · next h =>
    rw [fieldAt_take (show 14 + 3 ≤ n by omega)]
    have yield : (if 50 ≤ n ∧ fieldAt (span.take n) 46 4 ≤ 12 then some (66 + 8 * fieldAt (span.take n) 46 4) else none)
        = if 50 ≤ n ∧ fieldAt span 46 4 ≤ 12 then some (66 + 8 * fieldAt span 46 4) else none := by
      by_cases h : 50 ≤ n
      · rw [fieldAt_take (show 46 + 4 ≤ n by omega)]
      · simp [h]
    have publish : (if 42 ≤ n ∧ fieldAt (span.take n) 38 4 ≤ 12 then some (58 + 8 * fieldAt (span.take n) 38 4) else none)
        = if 42 ≤ n ∧ fieldAt span 38 4 ≤ 12 then some (58 + 8 * fieldAt span 38 4) else none := by
      by_cases h : 42 ≤ n
      · rw [fieldAt_take (show 38 + 4 ≤ n by omega)]
      · simp [h]
    split <;> simp_all

/-- No span is shorter than that of a PULL. -/
theorem spanLength_ge {span : List Bool} {n : Nat} (h : spanLength span = some n) : 38 ≤ n := by
  unfold spanLength at h
  repeat' split at h
  all_goals simp at h
  all_goals omega

/-- The fill bits stand behind the type of an ANNOUNCE, behind the adopt bit of a CLAIM and behind the new owner of a
YIELD. -/
theorem atFillBit_take {span : List Bool} {n : Nat} (hn : n ≤ span.length) : atFillBit (span.take n) = true ↔
    (fieldAt span 14 3 = 0 ∧ 28 ≤ n ∧ n ≤ 30) ∨ (fieldAt span 14 3 = 1 ∧ 32 ≤ n ∧ n ≤ 34) ∨
      (fieldAt span 14 3 = 4 ∧ 25 ≤ n ∧ n ≤ 30) := by
  unfold atFillBit
  rw [List.length_take, Nat.min_eq_left hn]
  by_cases h : 17 ≤ n
  · rw [fieldAt_take (show 14 + 3 ≤ n by omega)]
    split <;> simp_all
  · split <;> simp <;> omega

/-- Each field with values that are not allowed shows them at its last bit; key and kind show at the kind's. -/
theorem formViolation_take {span : List Bool} {n : Nat} (hn : n ≤ span.length) : formViolation (span.take n) = true ↔
    (n = 14 ∧ 32 ≤ fieldAt span 2 12 ∧ fieldAt span 2 12 ≤ 63) ∨
    (n = 17 ∧ (5 ≤ fieldAt span 14 3 ∨ (fieldAt span 0 2 = 0 ∧ fieldAt span 14 3 ≠ 4) ∨
      (fieldAt span 14 3 = 4 ∧ fieldAt span 0 2 ≠ 0) ∨ (fieldAt span 2 12 < 32 ∧ fieldAt span 14 3 ≠ 4))) ∨
    (n = 22 ∧ fieldAt span 14 3 = 4 ∧ fieldAt span 2 12 ≠ fieldAt span 17 5) ∨
    (n = 24 ∧ fieldAt span 14 3 = 4 ∧ fieldAt span 22 2 = 3) ∨
    (n = 27 ∧ fieldAt span 14 3 = 0 ∧ fieldAt span 22 5 = fieldAt span 17 5) ∨
    (n = 42 ∧ fieldAt span 14 3 = 2 ∧ 12 < fieldAt span 38 4) ∨
    (n = 50 ∧ fieldAt span 14 3 = 0 ∧ 12 < fieldAt span 46 4) := by
  have read : ∀ offset width, offset + width ≤ n → fieldAt (span.take n) offset width = fieldAt span offset width :=
    fun _ _ h => fieldAt_take h span
  have len : (span.take n).length = n := by rw [List.length_take, Nat.min_eq_left hn]
  have places : n = 14 ∨ n = 17 ∨ n = 22 ∨ n = 24 ∨ n = 27 ∨ n = 42 ∨ n = 50 ∨
      (n ≠ 14 ∧ n ≠ 17 ∧ n ≠ 22 ∧ n ≠ 24 ∧ n ≠ 27 ∧ n ≠ 42 ∧ n ≠ 50) := by omega
  rcases places with h | h | h | h | h | h | h | h
  case inr.inr.inr.inr.inr.inr.inr => unfold formViolation; split <;> simp_all
  all_goals
    subst h
    simp [formViolation, len, read]

/-! ### The span of a frame (R21) -/

/-- The span of a frame with `c` in its check field. -/
def Frame.spanWith (f : Frame) (c : Nat) : List Bool := f.covered ++ natBits 16 c

theorem Frame.span_eq (f : Frame) : f.span = f.spanWith (crc f.covered).toNat := rfl

theorem Frame.spanWith_eq (f : Frame) (c : Nat) : f.spanWith c =
    headerBits f.cls.code f.key.toNat f.body.kindCode f.source.val ++ (f.body.bits ++ natBits 16 c) := by
  simp [Frame.spanWith, Frame.covered, headerBits]

theorem FrameClass.code_lt (c : FrameClass) : c.code < 4 := by cases c <;> decide
theorem FrameBody.kindCode_lt (b : FrameBody) : b.kindCode < 5 := by cases b <;> simp [FrameBody.kindCode]

/-- Header fields read as the frame's own. -/
theorem Frame.header_fields (f : Frame) (c : Nat) :
    fieldAt (f.spanWith c) 0 2 = f.cls.code ∧ fieldAt (f.spanWith c) 2 12 = f.key.toNat ∧
    fieldAt (f.spanWith c) 14 3 = f.body.kindCode ∧ fieldAt (f.spanWith c) 17 5 = f.source.val := by
  rw [f.spanWith_eq]
  exact fieldAt_headerBits f.cls.code_lt f.key.isLt (by have := f.body.kindCode_lt; omega) f.source.isLt _

/-- Fields of the body are read from the bits behind the header. -/
theorem Frame.fieldAt_body {offset : Nat} (h : 22 ≤ offset) (f : Frame) (c width : Nat) :
    fieldAt (f.spanWith c) offset width = fieldAt (f.body.bits ++ natBits 16 c) (offset - 22) width := by
  rw [f.spanWith_eq, fieldAt_after_header h]

theorem FrameBody.length_bits (b : FrameBody) : b.bits.length = match b with
    | .pull => 0
    | .announce _ => 8
    | .claim _ _ => 12
    | .publish _ _ p => 20 + 8 * p.length
    | .yield _ _ _ p => 28 + 8 * p.length := by
  cases b <;> simp [FrameBody.bits, length_payloadBits] <;> omega

theorem Frame.length_spanWith (f : Frame) (c : Nat) : (f.spanWith c).length = 38 + f.body.bits.length := by
  rw [f.spanWith_eq]; simp; omega

/-- The counters and the length field that stand before a payload. -/
theorem fieldAt_counters {g v len : Nat} (hg : g < 256) (hv : v < 256) (hl : len < 16) (t : List Bool) :
    fieldAt (natBits 8 g ++ (natBits 8 v ++ (natBits 4 len ++ t))) 0 8 = g ∧
    fieldAt (natBits 8 g ++ (natBits 8 v ++ (natBits 4 len ++ t))) 8 8 = v ∧
    fieldAt (natBits 8 g ++ (natBits 8 v ++ (natBits 4 len ++ t))) 16 4 = len := by
  refine ⟨?_, ?_, ?_⟩ <;>
    simp only [fieldAt_skip (show 8 ≤ 8 by omega), fieldAt_skip (show 8 ≤ 16 by omega), Nat.reduceSub, fieldAt_here] <;>
    omega

/-- The new owner and the three fill bits of a YIELD. -/
theorem fieldAt_newOwner {o : Nat} (ho : o < 32) (t : List Bool) :
    fieldAt (natBits 5 o ++ ([true, true, true] ++ t)) 0 5 = o := by
  rw [fieldAt_here]; omega

theorem fieldAt_after_newOwner {offset : Nat} (h : 8 ≤ offset) (o : Nat) (t : List Bool) (width : Nat) :
    fieldAt (natBits 5 o ++ ([true, true, true] ++ t)) offset width = fieldAt t (offset - 8) width := by
  rw [fieldAt_skip (by omega), List.cons_append, List.cons_append, List.cons_append, List.nil_append,
    fieldAt_cons (by omega), fieldAt_cons (by omega), fieldAt_cons (by omega)]
  rfl

theorem Frame.publish_fields {f : Frame} {g v : Byte} {p : List Byte} (hb : f.body = .publish g v p)
    (hp : p.length ≤ 12) (c : Nat) :
    fieldAt (f.spanWith c) 22 8 = g.toNat ∧ fieldAt (f.spanWith c) 30 8 = v.toNat ∧ fieldAt (f.spanWith c) 38 4 = p.length := by
  rw [f.fieldAt_body (by omega), f.fieldAt_body (by omega), f.fieldAt_body (by omega), hb]
  simp only [FrameBody.bits, List.append_assoc]
  exact fieldAt_counters g.isLt v.isLt (by omega) _

theorem Frame.yield_fields {f : Frame} {o : Station} {g v : Byte} {p : List Byte} (hb : f.body = .yield o g v p)
    (hp : p.length ≤ 12) (c : Nat) :
    fieldAt (f.spanWith c) 22 5 = o.val ∧ fieldAt (f.spanWith c) 30 8 = g.toNat ∧
    fieldAt (f.spanWith c) 38 8 = v.toNat ∧ fieldAt (f.spanWith c) 46 4 = p.length := by
  rw [f.fieldAt_body (by omega), f.fieldAt_body (by omega), f.fieldAt_body (by omega), f.fieldAt_body (by omega), hb]
  simp only [FrameBody.bits, List.append_assoc, Nat.reduceSub, fieldAt_after_newOwner (show 8 ≤ 8 by omega),
    fieldAt_after_newOwner (show 8 ≤ 16 by omega), fieldAt_after_newOwner (show 8 ≤ 24 by omega)]
  exact ⟨fieldAt_newOwner o.isLt _, fieldAt_counters g.isLt v.isLt (by omega) _⟩

theorem Frame.claim_fields {f : Frame} {g : Byte} {a : Bool} (hb : f.body = .claim g a) (c : Nat) :
    fieldAt (f.spanWith c) 22 8 = g.toNat ∧ (f.spanWith c)[30]? = some a := by
  have := g.isLt
  rw [f.fieldAt_body (by omega), f.spanWith_eq, hb]
  simp only [FrameBody.bits, List.append_assoc, Nat.reduceSub, fieldAt_here]
  refine ⟨by omega, ?_⟩
  rw [List.getElem?_append_right (by simp), length_headerBits, List.getElem?_append_right (by simp)]
  simp

theorem Frame.announce_fields {f : Frame} {t : AnnounceType} (hb : f.body = .announce t) (c : Nat) :
    fieldAt (f.spanWith c) 22 2 = t.code := by
  rw [f.fieldAt_body (by omega), hb]
  simp only [FrameBody.bits, List.append_assoc, Nat.reduceSub, fieldAt_here]
  cases t <;> rfl

/-! ### An allowed frame (R24) -/

/-- An allowed frame has at most 12 payload bytes. -/
theorem Frame.allowed.payload_le {f : Frame} (h : f.allowed) : f.body.content.2.2.length ≤ 12 := by
  unfold Frame.allowed at h
  split at h <;> simp_all [FrameBody.content]

/-- How many span bits tell the length: those up to the kind, and in PUBLISH and YIELD up to the length field. -/
def FrameBody.lengthShown : FrameBody → Nat
  | .yield .. => 50
  | .publish .. => 42
  | .claim .. | .pull | .announce _ => 17

theorem Frame.spanLength_spanWith {f : Frame} (h : f.allowed) {c n : Nat} (hn : n ≤ (f.spanWith c).length) (k : Nat) :
    spanLength ((f.spanWith c).take n) = some k ↔ f.body.lengthShown ≤ n ∧ k = (f.spanWith c).length := by
  obtain ⟨-, -, kind, -⟩ := f.header_fields c
  have payload := h.payload_le
  rw [spanLength_take hn, kind, f.length_spanWith, f.body.length_bits]
  rcases hb : f.body with ⟨o, g, v, p⟩ | ⟨g, a⟩ | ⟨g, v, p⟩ | _ | t <;> rw [hb] at payload <;>
    simp only [FrameBody.content] at payload
  case yield =>
    obtain ⟨-, -, -, len⟩ := f.yield_fields hb payload c
    simp [FrameBody.kindCode, FrameBody.lengthShown, len, payload]
    omega
  case publish =>
    obtain ⟨-, -, len⟩ := f.publish_fields hb payload c
    simp [FrameBody.kindCode, FrameBody.lengthShown, len, payload]
    omega
  all_goals
    simp [FrameBody.kindCode, FrameBody.lengthShown]
    omega

/-- No field of an allowed frame has a value that is not allowed. -/
theorem Frame.formViolation_spanWith {f : Frame} (h : f.allowed) {c n : Nat} (hn : n ≤ (f.spanWith c).length) :
    formViolation ((f.spanWith c).take n) = false := by
  obtain ⟨cls, key, kind, source⟩ := f.header_fields c
  have payload := h.payload_le
  rw [← Bool.not_eq_true, formViolation_take hn, cls, key, kind, source]
  unfold Frame.allowed at h
  have high : f.cls ≠ .system → f.cls.code ≠ 0 := by cases f.cls <;> simp [FrameClass.code]
  rcases hb : f.body with ⟨o, g, v, p⟩ | ⟨g, a⟩ | ⟨g, v, p⟩ | _ | t <;> rw [hb] at payload h <;>
    simp only [FrameBody.kindCode, FrameBody.content] at payload h ⊢
  case yield =>
    obtain ⟨owner, -, -, len⟩ := f.yield_fields hb payload c
    obtain ⟨hc, hk, -, ho⟩ := h
    have := high hc
    have : o.val ≠ f.source.val := fun h => ho (Fin.ext h)
    omega
  case publish =>
    obtain ⟨-, -, len⟩ := f.publish_fields hb payload c
    obtain ⟨hc, hk, -⟩ := h
    have := high hc
    omega
  case announce =>
    have type := f.announce_fields hb c
    have := f.source.isLt
    have : t.code ≠ 3 := by cases t <;> decide
    have : f.cls.code = 0 := by rw [h.1]; rfl
    omega
  all_goals
    have := high h.1
    omega

/-- The place of span bit `i` among the levels of a frame, with the start bit and the beats before it counted. -/
def placeOf (i : Nat) : Nat := i + i / 8 + 1

/-- The fill bits of a frame by their places. -/
theorem Frame.atFillBit_spanWith (f : Frame) {c i : Nat} (hi : i < (f.spanWith c).length) :
    atFillBit ((f.spanWith c).take (i + 1)) = true ↔ f.fillPlace (placeOf i) := by
  obtain ⟨-, -, kind, -⟩ := f.header_fields c
  rw [atFillBit_take hi, kind]
  rcases hb : f.body with ⟨o, g, v, p⟩ | ⟨g, a⟩ | ⟨g, v, p⟩ | _ | t <;>
    simp [FrameBody.kindCode, Frame.fillPlace, hb, placeOf] <;> omega

/-- Fill bits are recessive. -/
theorem Frame.fill_recessive (f : Frame) {c i : Nat} (h : f.fillPlace (placeOf i)) : (f.spanWith c)[i]? = some true := by
  rw [f.spanWith_eq]
  rcases hb : f.body with ⟨o, g, v, p⟩ | ⟨g, a⟩ | ⟨g, v, p⟩ | _ | t <;> simp only [Frame.fillPlace, hb, placeOf] at h
  case yield =>
    have places : i = 27 ∨ i = 28 ∨ i = 29 := by omega
    rcases places with rfl | rfl | rfl <;> simp [FrameBody.bits, List.getElem?_append]
  case claim =>
    have places : i = 31 ∨ i = 32 ∨ i = 33 := by omega
    rcases places with rfl | rfl | rfl <;> simp [FrameBody.bits]
  case announce =>
    have places : i = 24 ∨ i = 25 ∨ i = 26 ∨ i = 27 ∨ i = 28 ∨ i = 29 := by omega
    rcases places with rfl | rfl | rfl | rfl | rfl | rfl <;> simp [FrameBody.bits]

/-- The check field of a span matches where it holds the check value. -/
theorem Frame.checkMatches_spanWith (f : Frame) {c : Nat} (hc : c < 65536) :
    checkMatches (f.spanWith c) = true ↔ c = (crc f.covered).toNat := by
  have len : (f.spanWith c).length - 16 = f.covered.length := by simp [Frame.spanWith]
  rw [checkMatches, len, Frame.spanWith, List.take_left, fieldAt, List.drop_left, List.take_of_length_le (by simp),
    bitsNat_natBits, decide_eq_true_eq]
  omega

/-- The payload of a PUBLISH or YIELD is read from the bits behind its length field. -/
theorem Frame.payloadAt_spanWith {f : Frame} {p : List Byte} {k : Nat} {before : List Bool}
    (hb : f.body.bits = before ++ payloadBits p) (hk : before.length = k) (c : Nat) :
    payloadAt (f.spanWith c) (22 + k) p.length = p := by
  have read := payloadAt_append p (headerBits f.cls.code f.key.toNat f.body.kindCode f.source.val ++ before) (natBits 16 c)
  rw [List.length_append, length_headerBits, hk, ← List.append_assoc, List.append_assoc _ before, ← hb,
    List.append_assoc, ← f.spanWith_eq] at read
  exact read

theorem Frame.bodyOf_spanWith {f : Frame} (h : f.allowed) (c : Nat) : bodyOf (f.spanWith c) = some f.body := by
  obtain ⟨-, -, kind, -⟩ := f.header_fields c
  have payload := h.payload_le
  rw [bodyOf, kind]
  rcases hb : f.body with ⟨o, g, v, p⟩ | ⟨g, a⟩ | ⟨g, v, p⟩ | _ | t <;> rw [hb] at payload <;>
    simp only [FrameBody.content] at payload
  case yield =>
    obtain ⟨owner, generation, version, len⟩ := f.yield_fields hb payload c
    have bytes := f.payloadAt_spanWith (p := p) (k := 28) (by rw [hb]; rfl) (by simp) c
    simp [FrameBody.kindCode, stationAt, owner, generation, version, len, bytes]
  case claim =>
    obtain ⟨generation, adopting⟩ := f.claim_fields hb c
    simp [FrameBody.kindCode, generation, List.getD_eq_getElem?_getD, adopting]
  case publish =>
    obtain ⟨generation, version, len⟩ := f.publish_fields hb payload c
    have bytes := f.payloadAt_spanWith (p := p) (k := 20) (by rw [hb]; rfl) (by simp) c
    simp [FrameBody.kindCode, generation, version, len, bytes]
  case pull => rfl
  case announce =>
    rw [FrameBody.kindCode, f.announce_fields hb c]
    cases t <;> rfl

/-- The span of an allowed frame reads back as the frame. -/
theorem Frame.frameOf_spanWith {f : Frame} (h : f.allowed) (c : Nat) : frameOf (f.spanWith c) = some f := by
  obtain ⟨cls, key, -, source⟩ := f.header_fields c
  have hcls : FrameClass.ofCode f.cls.code = f.cls := by cases f.cls <;> rfl
  rw [frameOf, f.bodyOf_spanWith h c, Option.map_some, cls, key, stationAt, source, hcls]
  simp

end Sys2Proof.Machine
end

section
/-! SUPPORT. A line place by place: where its span bits and its beats stand, and what a station that follows it has read
and finds at each place (R22 to R24, R31, R36). -/

namespace Sys2Proof.Machine

/-! ### The places of a line (R22) -/

/-- The number of span bits among the first `n` levels of a frame, its start bit the first of them. -/
def bitsBefore (n : Nat) : Nat := (n - 1) - (n - 1) / 9

/-- The levels of a line that carry the bits of a span, its start bit and beats apart. -/
structure Carries (levels : List Level) (span : List Bool) : Prop where
  start : levels[0]? = some false
  bit : ∀ i, i < span.length → levels[placeOf i]? = span[i]?

/-- Each beat that belongs to the span is the inverse of the level before it. -/
def BeatsRight (levels : List Level) (span : List Bool) : Prop :=
  ∀ k, 1 ≤ k → 8 * k ≤ span.length → ∀ b, levels[9 * k]? = some b → levels[9 * k - 1]? = some (!b)

theorem placeOf_bitsBefore {n : Nat} (h : n % 9 ≠ 0) : placeOf (bitsBefore n) = n := by
  unfold placeOf bitsBefore; omega

theorem bitsBefore_succ {n : Nat} (h : n % 9 ≠ 0) : bitsBefore (n + 1) = bitsBefore n + 1 := by
  unfold bitsBefore; omega

theorem bitsBefore_beat {n : Nat} (h : n % 9 = 0) : bitsBefore (n + 1) = bitsBefore n := by
  unfold bitsBefore; omega

theorem bitsBefore_mono {m n : Nat} (h : m ≤ n) : bitsBefore m ≤ bitsBefore n := by
  unfold bitsBefore; omega

/-- The levels of a span with its start bit and its beats. -/
def beaten (span : List Bool) : List Level := false :: insertBeats 0 span

theorem Frame.levels_eq (f : Frame) : f.levels = beaten f.span := rfl

theorem wrongCheck_eq (f : Frame) (c : Nat) : wrongCheck f c = beaten (f.spanWith c) := rfl

theorem length_beaten (span : List Bool) : (beaten span).length = span.length + span.length / 8 + 1 := by
  rw [beaten, List.length_cons, length_insertBeats (by omega)]; rfl

theorem insertBeats_beat? {k : Nat} (hk : k < 8) (bs : List Bool) (i : Nat) (hi : i < bs.length) (h8 : (i + k) % 8 = 7) :
    (insertBeats k bs)[i + (i + k) / 8 + 1]? = bs[i]?.map (!·) := by
  have split : bs = bs.take i ++ bs[i] :: bs.drop (i + 1) := by rw [List.getElem_cons_drop, List.take_append_drop]
  have len : (insertBeats k (bs.take i)).length = i + (i + k) / 8 := by
    rw [length_insertBeats hk, List.length_take, Nat.min_eq_left hi.le]
  have last : (k + (bs.take i).length) % 8 = 7 := by rw [List.length_take, Nat.min_eq_left hi.le]; omega
  rw [split, insertBeats_append hk, List.getElem?_append_right (by omega), len, ← split, last, insertBeats, if_pos rfl,
    show i + (i + k) / 8 + 1 - (i + (i + k) / 8) = 1 by omega, List.getElem?_eq_getElem hi]
  rfl

theorem carries_beaten (span : List Bool) : Carries (beaten span) span where
  start := rfl
  bit i hi := by
    rw [beaten, placeOf, List.getElem?_cons_succ]
    exact insertBeats_getElem? (by omega) span i hi

theorem beatsRight_beaten (span : List Bool) : BeatsRight (beaten span) span := by
  intro k hk hspan b hb
  have before := (carries_beaten span).bit (8 * k - 1) (by omega)
  rw [beaten, show 9 * k = (8 * k - 1) + (8 * k - 1 + 0) / 8 + 1 + 1 by omega, List.getElem?_cons_succ,
    insertBeats_beat? (by omega) span _ (by omega) (by omega)] at hb
  rw [show 9 * k - 1 = placeOf (8 * k - 1) by unfold placeOf; omega, before]
  obtain ⟨x, hx, rfl⟩ := Option.map_eq_some_iff.1 hb
  simp [hx]

/-! ### What a station has read -/

/-- What a station has read of a frame: the span bits, whether a beat is due, the window levels and how many of the end
field's. -/
structure Rx.Reads (r : Rx) (span : List Bool) (beat : Bool) (win : List Level) (fin : Nat) : Prop where
  span : r.span = span
  beat : r.beat = beat
  win : r.win = win
  fin : r.fin = fin

/-- The irregularity a level shows, whatever was found before it. -/
def Rx.shows (r : Rx) (b : Level) : Option FaultKind := ({ r with fault := none }.step b).fault

/-- Whether a level is dominant where recessive was due, of the kinds R36 lists. -/
def Rx.strikes (r : Rx) (b : Level) : Bool := decide (({ r with dominant := 0 }.step b).dominant = 1)

/-- A level is a beat, a span bit, or of the window or end field. -/
theorem Rx.step_eq (r : Rx) (b : Level) : r.step b = if r.fin = 7 then r else if r.beat = true then r.stepBeat b
    else if spanLength r.span = some r.span.length then r.stepTail b else r.stepSpan b := by
  simp only [Rx.step, Rx.over, Rx.spanDone, decide_eq_true_eq]

/-- The first irregularity shown governs (R34). -/
theorem Rx.step_fault_eq (r : Rx) (b : Level) : (r.step b).fault = r.fault.or (r.shows b) := by
  simp only [Rx.shows, Rx.step_eq]
  split_ifs
  · exact Option.or_none.symm
  · simp only [Rx.stepBeat]; split_ifs <;> simp [Rx.note, Rx.withFault, Rx.withDominant]
  · simp only [Rx.stepTail]; split_ifs <;> simp [Rx.note, Rx.withDominant, Rx.withFault]
  · simp only [Rx.stepSpan]; split_ifs <;> simp [Rx.note, Rx.withFault, Rx.withDominant]

theorem Rx.step_dominant_eq (r : Rx) (b : Level) :
    (r.step b).dominant = r.dominant + (if r.strikes b then 1 else 0) := by
  simp only [Rx.strikes, Rx.step_eq]
  by_cases ended : r.fin = 7
  · simp [ended]
  by_cases beat : r.beat = true
  · simp only [ended, beat, if_true, if_false, Rx.stepBeat]
    split_ifs <;> simp_all [Rx.note, Rx.withFault, Rx.withDominant]
  by_cases whole : spanLength r.span = some r.span.length
  · simp only [ended, beat, whole, if_true, if_false, Rx.stepTail]
    split_ifs <;> simp_all [Rx.note, Rx.withFault, Rx.withDominant]
  · simp only [ended, beat, whole, if_false, Rx.stepSpan]
    split_ifs <;> simp_all [Rx.note, Rx.withFault, Rx.withDominant]

section
variable {r : Rx} {span : List Bool} {win : List Level} {fin : Nat} {b : Level}

/-- Up to the end of the end field the level sampled is the last, and the dominant run goes on or is over. -/
theorem Rx.step_last_run (running : r.fin ≠ 7) :
    (r.step b).last = b ∧ (r.step b).run = if b then 0 else r.run + 1 := by
  rw [Rx.step_eq, if_neg running, Rx.stepBeat, Rx.stepTail, Rx.stepSpan]
  split_ifs <;> simp_all [Rx.note, Rx.withFault, Rx.withDominant]

theorem Rx.Reads.step_beat (h : r.Reads span true [] 0) : (r.step b).Reads span false [] 0 := by
  obtain ⟨hs, hb, hw, hf⟩ := h
  rw [Rx.step_eq, if_neg (by omega), if_pos hb, Rx.stepBeat]
  split_ifs <;> exact ⟨hs, rfl, hw, hf⟩

/-- At a beat the level before it is wrong. -/
theorem Rx.Reads.shows_beat (h : r.Reads span true [] 0) :
    r.shows b = if b = r.last then some (if b then .beat else runKind (r.run + 1) .beat) else none := by
  rw [Rx.shows, Rx.step_eq, if_neg (by simp [h.fin]), if_pos h.beat, Rx.stepBeat]
  cases b <;> split_ifs <;> simp_all <;> rfl

theorem Rx.Reads.strikes_beat (h : r.Reads span true [] 0) : r.strikes b = (decide (b = r.last) && !b) := by
  rw [Rx.strikes, Rx.step_eq, if_neg (by simp [h.fin]), if_pos h.beat, Rx.stepBeat]
  cases b <;> split_ifs <;> simp_all [Rx.note, Rx.withFault, Rx.withDominant]

theorem Rx.Reads.step_bit (h : r.Reads span false [] 0) (short : spanLength span ≠ some span.length) :
    (r.step b).Reads (span ++ [b]) (decide ((span ++ [b]).length % 8 = 0)) [] 0 := by
  obtain ⟨rfl, hb, hw, hf⟩ := h
  rw [Rx.step_eq, if_neg (by omega), if_neg (by simp [hb]), if_neg short, Rx.stepSpan]
  split_ifs <;> exact ⟨rfl, rfl, hw, hf⟩

/-- At a span bit a dominant fill bit, then a field value that is not allowed, then at its end a wrong check. -/
theorem Rx.Reads.shows_bit (h : r.Reads span false [] 0) (short : spanLength span ≠ some span.length) :
    r.shows b = if atFillBit (span ++ [b]) && !b then some (runKind (r.run + 1) .form)
      else if formViolation (span ++ [b]) then some .form
      else if spanLength (span ++ [b]) = some (span ++ [b]).length && !checkMatches (span ++ [b]) then some .check
      else none := by
  obtain ⟨rfl, hb, hw, hf⟩ := h
  rw [Rx.shows, Rx.step_eq, if_neg (by simp [hf]), if_neg (by simp [hb]), if_neg short, Rx.stepSpan]
  split_ifs with fill
  · have dominant : b = false := by simp at fill; exact fill.2
    subst dominant; rfl
  all_goals rfl

theorem Rx.Reads.strikes_bit (h : r.Reads span false [] 0) (short : spanLength span ≠ some span.length) :
    r.strikes b = (atFillBit (span ++ [b]) && !b) := by
  obtain ⟨rfl, hb, hw, hf⟩ := h
  rw [Rx.strikes, Rx.step_eq, if_neg (by simp [hf]), if_neg (by simp [hb]), if_neg short, Rx.stepSpan]
  split_ifs with fill <;> simp [fill, Rx.note, Rx.withFault, Rx.withDominant]

theorem Rx.Reads.step_win (h : r.Reads span false win 0) (whole : spanLength span = some span.length)
    (room : win.length < 64) : (r.step b).Reads span false (win ++ [b]) 0 := by
  obtain ⟨hs, hb, hw, hf⟩ := h
  simp only [Rx.step, Rx.over, hf, hb, Rx.spanDone, hs, whole, Rx.stepTail, hw, room, Rx.note]
  exact ⟨rfl, rfl, rfl, rfl⟩

/-- No level of the window is irregular. -/
theorem Rx.Reads.shows_win (h : r.Reads span false win 0) (whole : spanLength span = some span.length)
    (room : win.length < 64) : r.shows b = none ∧ r.strikes b = false := by
  obtain ⟨hs, hb, hw, hf⟩ := h
  simp [Rx.shows, Rx.strikes, Rx.step, Rx.over, hf, hb, Rx.spanDone, hs, whole, Rx.stepTail, hw, room, Rx.note]

theorem Rx.Reads.step_fin (h : r.Reads span false win fin) (whole : spanLength span = some span.length)
    (full : win.length = 64) (room : fin < 7) : (r.step b).Reads span false win (fin + 1) := by
  obtain ⟨hs, hb, hw, hf⟩ := h
  simp only [Rx.step, Rx.over, hf, room.ne, hb, Rx.spanDone, hs, whole, Rx.stepTail, hw, full, Rx.note, Rx.withFault,
    Rx.withDominant]
  cases b <;> exact ⟨rfl, rfl, rfl, rfl⟩

/-- A dominant level of the end field is irregular. -/
theorem Rx.Reads.shows_fin (h : r.Reads span false win fin) (whole : spanLength span = some span.length)
    (full : win.length = 64) (room : fin < 7) :
    r.shows b = (if b then none else some (runKind (r.run + 1) .form)) ∧ r.strikes b = !b := by
  obtain ⟨hs, hb, hw, hf⟩ := h
  cases b <;>
    simp [Rx.shows, Rx.strikes, Rx.step, Rx.over, hf, room.ne, hb, Rx.spanDone, hs, whole, Rx.stepTail, hw, full,
      Rx.note, Rx.withFault, Rx.withDominant]

end

end Sys2Proof.Machine
end

section
/-! SUPPORT. What a receiver has read and found at each place of a line that carries a span. -/

namespace Sys2Proof.Machine

/-! ### One level more -/

theorem rxScan_concat {levels : List Level} (h : levels ≠ []) (b : Level) :
    rxScan (levels ++ [b]) = (rxScan levels).step b := by
  rw [rxScan_append, Nat.sub_eq_zero_of_le (List.length_pos_of_ne_nil h)]
  rfl

theorem take_ne_nil {levels : List Level} {n : Nat} (hn : 1 ≤ n) {b : Level} (hb : levels[n]? = some b) :
    levels.take n ≠ [] := by
  obtain ⟨h, -⟩ := List.getElem?_eq_some_iff.1 hb
  rw [Ne, ← List.length_eq_zero_iff, List.length_take]
  omega

theorem take_succ_eq {levels : List Level} {n : Nat} {b : Level} (hb : levels[n]? = some b) :
    levels.take (n + 1) = levels.take n ++ [b] := by
  rw [List.take_add_one, hb]; rfl

theorem rxScan_take_succ {levels : List Level} {n : Nat} (hn : 1 ≤ n) {b : Level} (hb : levels[n]? = some b) :
    rxScan (levels.take (n + 1)) = (rxScan (levels.take n)).step b := by
  rw [take_succ_eq hb, rxScan_concat (take_ne_nil hn hb)]

/-- Where no level shows an irregularity none is found. -/
theorem rxScan_take_clean {levels : List Level} {n : Nat}
    (h : ∀ j b, 1 ≤ j → j < n → levels[j]? = some b → (rxScan (levels.take j)).shows b = none) :
    (rxScan (levels.take n)).fault = none := by
  induction n with
  | zero => rfl
  | succ n ih =>
    have before := ih fun j b h1 hj => h j b h1 (by omega)
    rcases hb : levels[n]? with _ | b
    · rw [List.take_add_one, hb, Option.toList_none, List.append_nil]; exact before
    · rcases Nat.eq_zero_or_pos n with rfl | hn
      · rw [take_succ_eq hb]; rfl
      · rw [rxScan_take_succ hn hb, Rx.step_fault_eq, before, h n b hn (by omega) hb]; rfl

/-- Where no level is dominant in place of a recessive one the count of those stays. -/
theorem rxScan_take_dominant {levels : List Level} {m n : Nat} (hm : 1 ≤ m) (hmn : m ≤ n)
    (h : ∀ j b, m ≤ j → j < n → levels[j]? = some b → (rxScan (levels.take j)).strikes b = false) :
    (rxScan (levels.take n)).dominant = (rxScan (levels.take m)).dominant := by
  induction n, hmn using Nat.le_induction with
  | base => rfl
  | succ n hn ih =>
    have before := ih fun j b h1 hj => h j b h1 (by omega)
    rcases hb : levels[n]? with _ | b
    · rw [List.take_add_one, hb, Option.toList_none, List.append_nil]; exact before
    · rw [rxScan_take_succ (by omega) hb, Rx.step_dominant_eq, before, h n b hn (by omega) hb]; rfl

/-- What is found now is what the last level shows, where nothing was found before (R34). -/
theorem rxFaultNow_concat {levels : List Level} (h : levels ≠ []) (clean : (rxScan levels).fault = none) (b : Level) :
    rxFaultNow (levels ++ [b]) = (rxScan levels).shows b := by
  rw [rxFaultNow, List.dropLast_concat, clean, Option.isNone_none, if_pos rfl, rxScan_concat h, Rx.step_fault_eq, clean]
  rfl

/-! ### The dominant run (R36) -/

/-- The length of the dominant run that ends in the last of `levels`, `q` dominant levels coming before them. -/
def dominantRun (q : Nat) (levels : List Level) : Nat := levels.foldl (fun n b => if b then 0 else n + 1) q

theorem dominantRun_append (q : Nat) (a b : List Level) : dominantRun q (a ++ b) = dominantRun (dominantRun q a) b :=
  List.foldl_append

theorem dominantRun_concat (q : Nat) (a : List Level) (b : Level) :
    dominantRun q (a ++ [b]) = if b then 0 else dominantRun q a + 1 := dominantRun_append q a [b]

theorem dominantRun_replicate (q n : Nat) : dominantRun q (List.replicate n false) = q + n := by
  induction n with
  | zero => rfl
  | succ n ih => rw [List.replicate_succ', dominantRun_concat, ih]; rfl

theorem exists_of_le_dominantRun {k : Nat} {levels : List Level} (h : k ≤ dominantRun 0 levels) :
    ∃ pre, levels = pre ++ List.replicate k false := by
  induction k generalizing levels with
  | zero => exact ⟨levels, by simp⟩
  | succ k ih =>
    rcases List.eq_nil_or_concat levels with rfl | ⟨before, b, rfl⟩
    · simp [dominantRun] at h
    · rw [List.concat_eq_append, dominantRun_concat] at h
      cases b with
      | true => simp at h
      | false =>
        obtain ⟨pre, rfl⟩ := ih (levels := before) (by simpa using h)
        exact ⟨pre, by rw [List.replicate_succ', List.concat_eq_append, List.append_assoc]⟩

theorem endsInFiveDominant_iff (levels : List Level) : endsInFiveDominant levels ↔ 5 ≤ dominantRun 0 levels := by
  constructor
  · rintro ⟨pre, rfl⟩
    rw [dominantRun_append, dominantRun_replicate]
    omega
  · exact exists_of_le_dominantRun

/-- An irregular dominant bit after five or more dominant ones is the abort mark of another (R36). -/
theorem runKind_dominantRun (levels : List Level) (k : FaultKind) :
    (endsInFiveDominant levels → runKind (dominantRun 0 levels + 1) k = .abortSeen) ∧
    (¬ endsInFiveDominant levels → runKind (dominantRun 0 levels + 1) k = k) := by
  rw [endsInFiveDominant_iff, runKind]
  constructor <;> intro h
  · rw [if_pos (by omega)]
  · rw [if_neg (by omega)]

/-- Up to the end of the end field the last level and the dominant run are those of the levels sampled. -/
theorem rxScan_last_run {levels : List Level} (start : levels[0]? = some false) (h : (rxScan levels).over = false) :
    levels.getLast? = some (rxScan levels).last ∧ (rxScan levels).run = dominantRun 0 levels := by
  induction levels using List.reverseRecOn with
  | nil => simp at start
  | append_singleton before b ih =>
    rcases eq_or_ne before [] with rfl | hne
    · simp at start; subst start; exact ⟨rfl, rfl⟩
    · rw [rxScan_concat hne] at h ⊢
      have open_before : (rxScan before).over = false := by
        rw [← Bool.not_eq_true]
        intro hover
        rw [Rx.step, if_pos hover, hover] at h
        cases h
      have start_before : before[0]? = some false := by
        rwa [List.getElem?_append_left (List.length_pos_of_ne_nil hne)] at start
      obtain ⟨-, run⟩ := ih start_before open_before
      obtain ⟨last, next⟩ := Rx.step_last_run (r := rxScan before) (b := b) (by simpa [Rx.over] using open_before)
      rw [dominantRun_concat, ← run, List.getLast?_concat, last, next]
      exact ⟨rfl, rfl⟩

/-! ### Along the span (R22 to R24) -/

/-- No first part of the span is a whole one. -/
def OpenSpan (span : List Bool) : Prop := ∀ i, i < span.length → spanLength (span.take i) ≠ some i

/-- The first `k` bits of the span show no irregularity. -/
def SoundTo (span : List Bool) (k : Nat) : Prop :=
  ∀ i, i < k → (atFillBit (span.take (i + 1)) = true → span[i]? = some true) ∧ formViolation (span.take (i + 1)) = false ∧
    (spanLength (span.take (i + 1)) = some (i + 1) → checkMatches (span.take (i + 1)) = true)

section
variable {levels : List Level} {span : List Bool}

/-- At each place up to the end of the span a station has read the span bits before it. -/
theorem Carries.reads (h : Carries levels span) (hopen : OpenSpan span) {n : Nat} (hn : 1 ≤ n) (hl : n ≤ levels.length)
    (hs : bitsBefore n ≤ span.length) :
    (rxScan (levels.take n)).Reads (span.take (bitsBefore n)) (decide (n % 9 = 0)) [] 0 := by
  induction n, hn using Nat.le_induction with
  | base =>
    obtain ⟨x, hx⟩ : ∃ x, levels.take 1 = [x] := ⟨_, take_succ_eq h.start⟩
    rw [hx]
    exact ⟨rfl, rfl, rfl, rfl⟩
  | succ n hn ih =>
    have before := ih (by omega) ((bitsBefore_mono (by omega)).trans hs)
    have hb := List.getElem?_eq_getElem (show n < levels.length by omega)
    rw [rxScan_take_succ hn hb]
    by_cases hbeat : n % 9 = 0
    · rw [bitsBefore_beat hbeat, decide_eq_false (by omega)]
      rw [decide_eq_true hbeat] at before
      exact before.step_beat
    · rw [decide_eq_false hbeat] at before
      rw [bitsBefore_succ hbeat] at hs ⊢
      have len : (span.take (bitsBefore n)).length = bitsBefore n := by rw [List.length_take]; omega
      have bit : span.take (bitsBefore n) ++ [levels[n]] = span.take (bitsBefore n + 1) := by
        rw [List.take_add_one, ← h.bit _ (by omega), placeOf_bitsBefore hbeat, hb]; rfl
      have next := before.step_bit (b := levels[n]) (by rw [len]; exact hopen _ (by omega))
      have beat : decide ((span.take (bitsBefore n) ++ [levels[n]]).length % 8 = 0) = decide ((n + 1) % 9 = 0) := by
        rw [List.length_append, len, decide_eq_decide, List.length_singleton]
        unfold bitsBefore; omega
      rwa [beat, bit] at next

/-- The level before a place and the dominant run up to it. -/
theorem Carries.last_run (h : Carries levels span) {n : Nat} (hn : 1 ≤ n) (hl : n ≤ levels.length)
    (hover : (rxScan (levels.take n)).over = false) :
    levels[n - 1]? = some (rxScan (levels.take n)).last ∧
      (rxScan (levels.take n)).run = dominantRun 0 (levels.take n) := by
  have start : (levels.take n)[0]? = some false := by rw [List.getElem?_take_of_lt (by omega), h.start]
  obtain ⟨last, run⟩ := rxScan_last_run start hover
  refine ⟨?_, run⟩
  rw [← last, List.getLast?_eq_getElem?, List.length_take, Nat.min_eq_left hl, List.getElem?_take_of_lt (by omega)]

theorem Rx.Reads.not_over {r : Rx} {beat : Bool} {win : List Level} {fin : Nat} (h : r.Reads span beat win fin)
    (hf : fin < 7) : r.over = false := by
  rw [Rx.over, h.fin]; exact decide_eq_false (by omega)

/-- What a level shows in the place of a beat. -/
theorem Carries.shows_beat (h : Carries levels span) (hopen : OpenSpan span) {n : Nat} (hn : 1 ≤ n) (hl : n ≤ levels.length)
    (hs : bitsBefore n ≤ span.length) (hbeat : n % 9 = 0) {c : Level} (hc : levels[n - 1]? = some c) (b : Level) :
    (rxScan (levels.take n)).shows b =
        (if b = c then some (if b then .beat else runKind (dominantRun 0 (levels.take n) + 1) .beat) else none) ∧
      (rxScan (levels.take n)).strikes b = (decide (b = c) && !b) := by
  have reads := h.reads hopen hn hl hs
  rw [decide_eq_true hbeat] at reads
  obtain ⟨last, run⟩ := h.last_run hn hl (reads.not_over (by omega))
  rw [hc, Option.some_inj] at last
  rw [reads.shows_beat, reads.strikes_beat, run, last]
  exact ⟨rfl, rfl⟩

/-- What a level shows in the place of a span bit. -/
theorem Carries.shows_bit (h : Carries levels span) (hopen : OpenSpan span) {n : Nat} (hn : 1 ≤ n) (hl : n ≤ levels.length)
    (hs : bitsBefore n < span.length) (hbeat : n % 9 ≠ 0) {p : List Bool} {b : Level}
    (hp : span.take (bitsBefore n) ++ [b] = p) :
    (rxScan (levels.take n)).shows b =
        (if atFillBit p && !b then some (runKind (dominantRun 0 (levels.take n) + 1) .form)
        else if formViolation p then some .form
        else if spanLength p = some p.length && !checkMatches p then some .check
        else none) ∧
      (rxScan (levels.take n)).strikes b = (atFillBit p && !b) := by
  have reads := h.reads hopen hn hl hs.le
  rw [decide_eq_false hbeat] at reads
  obtain ⟨-, run⟩ := h.last_run hn hl (reads.not_over (by omega))
  have short : spanLength (span.take (bitsBefore n)) ≠ some (span.take (bitsBefore n)).length := by
    rw [List.length_take, Nat.min_eq_left hs.le]; exact hopen _ hs
  rw [reads.shows_bit short, reads.strikes_bit short, run, hp]
  exact ⟨rfl, rfl⟩

/-- A line with right beats shows nothing while the bits of its span do not. -/
theorem Carries.clean (h : Carries levels span) (hopen : OpenSpan span) (hb : BeatsRight levels span) {k n : Nat}
    (sound : SoundTo span k) (hk : k ≤ span.length) (hs : bitsBefore n ≤ k) :
    (rxScan (levels.take n)).fault = none := by
  refine rxScan_take_clean fun j b hj hjn hlevel => ?_
  have mono := bitsBefore_mono hjn
  have short : j ≤ levels.length := (List.getElem?_eq_some_iff.1 hlevel).1.le
  by_cases hbeat : j % 9 = 0
  · rw [bitsBefore_beat hbeat] at mono
    have before := hb (j / 9) (by omega) (by unfold bitsBefore at *; omega) b (by rwa [show 9 * (j / 9) = j by omega])
    rw [show 9 * (j / 9) = j by omega] at before
    rw [(h.shows_beat hopen hj short (by omega) hbeat before b).1, if_neg (by cases b <;> decide)]
  · rw [Nat.succ_eq_add_one, bitsBefore_succ hbeat] at mono
    have bit : span[bitsBefore j]? = some b := by rw [← h.bit _ (by omega), placeOf_bitsBefore hbeat, hlevel]
    have bits : span.take (bitsBefore j) ++ [b] = span.take (bitsBefore j + 1) := by rw [List.take_add_one, bit]; rfl
    obtain ⟨fill, form, check⟩ := sound (bitsBefore j) (by omega)
    have len : (span.take (bitsBefore j + 1)).length = bitsBefore j + 1 := by rw [List.length_take]; omega
    rw [(h.shows_bit hopen hj short (by omega) hbeat bits).1, form, len]
    rw [bit, Option.some_inj] at fill
    rw [if_neg (by simpa using fill), if_neg (by simp), if_neg (by simpa using check)]

end

end Sys2Proof.Machine
end

section
/-! SUPPORT. The window and the end field of a line, the lines that carry a frame, and the faults of a line that shows one
(R24, R29 to R33). -/

namespace Sys2Proof.Machine

/-! ### The window and the end field (R31, R33) -/

/-- A span that tells its own length, and ends in no beat. -/
structure WholeSpan (span : List Bool) : Prop where
  shorter : OpenSpan span
  length : spanLength span = some span.length
  unbeaten : span.length % 8 ≠ 0

theorem bitsBefore_beaten {span : List Bool} (_ : span.length % 8 ≠ 0) :
    bitsBefore (beaten span).length = span.length ∧ (beaten span).length % 9 ≠ 0 := by
  rw [length_beaten]; unfold bitsBefore; omega

section
variable {levels : List Level} {span : List Bool}

/-- Past the span a station has read the window levels, 64 of them at most, and then the end field's, 7 at most. -/
theorem Carries.reads_tail (h : Carries levels span) (whole : WholeSpan span) {n : Nat} (hn : (beaten span).length ≤ n)
    (hl : n ≤ levels.length) :
    (rxScan (levels.take n)).Reads span false (((levels.drop (beaten span).length).take (n - (beaten span).length)).take 64)
      (min 7 (n - (beaten span).length - 64)) := by
  have one : 1 ≤ (beaten span).length := by rw [length_beaten]; omega
  obtain ⟨bits, beat⟩ := bitsBefore_beaten whole.unbeaten
  induction n, hn using Nat.le_induction with
  | base =>
    have reads := h.reads whole.shorter one hl bits.le
    rw [bits, List.take_length, decide_eq_false beat] at reads
    simpa using reads
  | succ n hn ih =>
    have before := ih (by omega)
    have hb := List.getElem?_eq_getElem (show n < levels.length by omega)
    rw [rxScan_take_succ (by omega) hb]
    generalize hL : (beaten span).length = L at *
    have next : (levels.drop L).take (n + 1 - L) = (levels.drop L).take (n - L) ++ [levels[n]] := by
      rw [Nat.sub_add_comm hn, List.take_add_one, List.getElem?_drop, Nat.add_sub_cancel' hn, hb]; rfl
    have len : ((levels.drop L).take (n - L)).length = n - L := by simp; omega
    generalize (levels.drop L).take (n - L) = tail at *
    by_cases hw : n - L < 64
    · rw [List.take_of_length_le (l := tail) (by omega), show min 7 (n - L - 64) = 0 by omega] at before
      rw [next, List.take_of_length_le (l := tail ++ [_]) (by rw [List.length_append, List.length_singleton]; omega),
        show min 7 (n + 1 - L - 64) = 0 by omega]
      exact before.step_win whole.length (by omega)
    · have full : (tail.take 64).length = 64 := by rw [List.length_take]; omega
      rw [next, List.take_append_of_le_length (by omega)]
      by_cases hf : n - L - 64 < 7
      · rw [show min 7 (n + 1 - L - 64) = min 7 (n - L - 64) + 1 by omega]
        exact before.step_fin whole.length full (by omega)
      · rw [show min 7 (n + 1 - L - 64) = min 7 (n - L - 64) by omega, Rx.step,
          if_pos (by rw [Rx.over, before.fin]; exact decide_eq_true (by omega))]
        exact before

/-- No level of the window is irregular. -/
theorem Carries.shows_win (h : Carries levels span) (whole : WholeSpan span) {n : Nat} (hn : (beaten span).length ≤ n)
    (hl : n ≤ levels.length) (hw : n < (beaten span).length + 64) (b : Level) :
    (rxScan (levels.take n)).shows b = none ∧ (rxScan (levels.take n)).strikes b = false := by
  have reads := h.reads_tail whole hn hl
  rw [show min 7 (n - (beaten span).length - 64) = 0 by omega] at reads
  exact reads.shows_win whole.length (by simp; omega)

/-- A dominant level of the end field is irregular. -/
theorem Carries.shows_fin (h : Carries levels span) (whole : WholeSpan span) {n : Nat}
    (hn : (beaten span).length + 64 ≤ n) (hl : n ≤ levels.length) (hw : n < (beaten span).length + 71) (b : Level) :
    (rxScan (levels.take n)).shows b = (if b then none else some (runKind (dominantRun 0 (levels.take n) + 1) .form)) ∧
      (rxScan (levels.take n)).strikes b = !b := by
  have reads := h.reads_tail whole (by omega) hl
  obtain ⟨-, run⟩ := h.last_run (by omega) hl (reads.not_over (by omega))
  rw [← run]
  exact reads.shows_fin whole.length (by simp; omega) (by omega)

/-- A line with right beats, a sound span and a clean end field shows nothing. -/
theorem Carries.clean_tail (h : Carries levels span) (whole : WholeSpan span) (hb : BeatsRight levels span)
    (sound : SoundTo span span.length)
    (ends : ∀ n b, (beaten span).length + 64 ≤ n → n < (beaten span).length + 71 → levels[n]? = some b → b = true)
    {n : Nat} (hl : n ≤ (beaten span).length + 71) : (rxScan (levels.take n)).fault = none := by
  obtain ⟨bits, beat⟩ := bitsBefore_beaten whole.unbeaten
  have one : 1 ≤ (beaten span).length := by rw [length_beaten]; omega
  rcases Nat.le_total n (beaten span).length with hn | hn
  · exact h.clean whole.shorter hb sound le_rfl ((bitsBefore_mono hn).trans bits.le)
  · induction n, hn using Nat.le_induction with
    | base => exact h.clean whole.shorter hb sound le_rfl bits.le
    | succ n hn ih =>
      have before := ih (by omega)
      rcases hlevel : levels[n]? with _ | b
      · rw [List.take_add_one, hlevel, Option.toList_none, List.append_nil]; exact before
      · have hl' : n ≤ levels.length := (List.getElem?_eq_some_iff.1 hlevel).1.le
        rw [rxScan_take_succ (by omega) hlevel, Rx.step_fault_eq, before]
        by_cases hw : n < (beaten span).length + 64
        · rw [(h.shows_win whole hn hl' hw b).1]; rfl
        · rw [(h.shows_fin whole (by omega) hl' (by omega) b).1, ends n b (by omega) (by omega) hlevel]; rfl

/-- The span is done at its last level. -/
theorem Carries.spanDone_take (h : Carries levels span) (whole : WholeSpan span) {n : Nat} (hl : n ≤ levels.length) :
    (rxScan (levels.take n)).spanDone = decide ((beaten span).length ≤ n) := by
  have last := length_beaten span
  rcases Nat.eq_zero_or_pos n with rfl | hn
  · rw [decide_eq_false (by omega)]; rfl
  by_cases hspan : (beaten span).length ≤ n
  · rw [Rx.spanDone, (h.reads_tail whole hspan hl).span, decide_eq_true hspan, decide_eq_true whole.length]
  · have short : bitsBefore n < span.length := by
      have unbeaten := whole.unbeaten
      unfold bitsBefore; omega
    have len : (span.take (bitsBefore n)).length = bitsBefore n := by rw [List.length_take]; omega
    rw [Rx.spanDone, (h.reads whole.shorter hn hl short.le).span, len, decide_eq_false hspan,
      decide_eq_false (whole.shorter _ short)]

/-- The phase of a station that follows a line, by its place (R39). -/
theorem Carries.phaseAt_take (h : Carries levels span) (whole : WholeSpan span) {n : Nat} (hl : n ≤ levels.length) :
    phaseAt (levels.take n) = if n < (beaten span).length then .receiving
      else if n < (beaten span).length + 64 then .window else .ending := by
  rw [phaseAt, h.spanDone_take whole hl]
  by_cases hspan : (beaten span).length ≤ n
  · have win : (rxScan (levels.take n)).win.length < 64 ↔ n < (beaten span).length + 64 := by
      rw [(h.reads_tail whole hspan hl).win]; simp; omega
    simp [hspan, Nat.not_lt.2 hspan, win]
  · simp [hspan, Nat.lt_of_not_le hspan]

end

/-! ### The lines of a frame (R21, R22, R31) -/

theorem carries_append (span : List Bool) (t : List Level) : Carries (beaten span ++ t) span where
  start := rfl
  bit i hi := by
    rw [List.getElem?_append_left (by rw [length_beaten, placeOf]; omega)]
    exact (carries_beaten span).bit i hi

theorem beatsRight_append (span : List Bool) (t : List Level) : BeatsRight (beaten span ++ t) span := by
  intro k hk hs b hb
  rw [List.getElem?_append_left (by rw [length_beaten]; omega)] at hb ⊢
  exact beatsRight_beaten span k hk hs b hb

theorem Frame.wholeSpan {f : Frame} (h : f.allowed) (c : Nat) : WholeSpan (f.spanWith c) where
  shorter i hi := by
    rw [Ne, f.spanLength_spanWith h hi.le]; omega
  length := by
    have shown := f.spanLength_spanWith h (c := c) le_rfl
    rw [List.take_length] at shown
    rw [shown, f.length_spanWith, f.body.length_bits]
    refine ⟨?_, rfl⟩
    cases f.body <;> simp only [FrameBody.lengthShown] <;> omega
  unbeaten := by
    rw [f.length_spanWith, f.body.length_bits]
    cases f.body <;> simp only <;> omega

/-- The bits of an allowed frame show no irregularity up to the check (R24). -/
theorem Frame.soundTo {f : Frame} (h : f.allowed) {c k : Nat} (hk : k ≤ (f.spanWith c).length)
    (hc : k = (f.spanWith c).length → c = (crc f.covered).toNat) : SoundTo (f.spanWith c) k := by
  intro i hi
  refine ⟨fun fill => ?_, f.formViolation_spanWith h (by omega), fun done => ?_⟩
  · exact f.fill_recessive ((f.atFillBit_spanWith (by omega)).1 fill)
  · obtain ⟨-, last⟩ := (f.spanLength_spanWith h (by omega) _).1 done
    have eq := hc (by omega)
    rw [last, List.take_length]
    exact (f.checkMatches_spanWith (by rw [eq]; exact (crc f.covered).isLt)).2 eq

@[simp] theorem SlotSymbol.length_levels (x : SlotSymbol) : x.levels.length = 2 := by cases x <;> rfl

/-- The items of a list of pairs laid end to end. -/
theorem flatMap_pairs_getElem? {α β : Type} (f : α → List β) (h : ∀ a, (f a).length = 2) (l : List α) (i j : Nat)
    (hj : j < 2) : (l.flatMap f)[2 * i + j]? = l[i]?.bind fun a => (f a)[j]? := by
  induction l generalizing i with
  | nil => simp
  | cons a l ih =>
    rw [List.flatMap_cons]
    cases i with
    | zero => rw [List.getElem?_append_left (by rw [h]; omega)]; simp
    | succ i =>
      rw [List.getElem?_append_right (by rw [h]; omega), h, show 2 * (i + 1) + j - 2 = 2 * i + j by omega, ih,
        List.getElem?_cons_succ]

/-- Slot `st` of a window as its two levels (R31). -/
theorem windowLevels_slot (w : Window) (st : Station) {j : Nat} (hj : j < 2) :
    (windowLevels w)[2 * st.val + j]? = (w[st]).levels[j]? := by
  rw [windowLevels, flatMap_pairs_getElem? _ (fun _ => SlotSymbol.length_levels _) _ _ _ hj]
  simp

@[simp] theorem length_windowLevels (w : Window) : (windowLevels w).length = 64 := by
  rw [windowLevels, List.length_flatMap]
  simp

/-- The levels of a window read back as the window (R31). -/
theorem windowOf_windowLevels (w : Window) : windowOf (windowLevels w) = w := by
  refine Vector.ext fun i hi => ?_
  have first := windowLevels_slot w ⟨i, hi⟩ (show 0 < 2 by omega)
  have second := windowLevels_slot w ⟨i, hi⟩ (show 1 < 2 by omega)
  simp only [windowOf, Vector.getElem_ofFn, List.getD_eq_getElem?_getD]
  rw [← Nat.add_zero (2 * i), first, Nat.add_zero, second]
  show _ = w[(⟨i, hi⟩ : Station)]
  cases w[(⟨i, hi⟩ : Station)] <;> rfl

/-- The levels of a frame to the end of its end field. -/
def Frame.line (f : Frame) (w : Window) : List Level := f.levels ++ windowLevels w ++ endField

theorem Frame.line_eq (f : Frame) (w : Window) : f.line w = beaten f.span ++ (windowLevels w ++ endField) :=
  List.append_assoc ..

theorem Frame.length_line (f : Frame) (w : Window) : (f.line w).length = f.levels.length + 71 := by
  simp [Frame.line, endField]

theorem Frame.line_levels (f : Frame) (w : Window) : (f.line w).take f.levels.length = f.levels := by
  rw [Frame.line, List.append_assoc, List.take_left]

theorem Frame.line_end {f : Frame} {w : Window} {n : Nat} (h : f.levels.length + 64 ≤ n) {b : Level}
    (hb : (f.line w)[n]? = some b) : b = true := by
  rw [Frame.line, List.getElem?_append_right (by simpa using h)] at hb
  exact List.eq_of_mem_replicate (List.mem_of_getElem? hb)

/-- No level of an allowed frame shows a fault, from its start bit to its last end-field bit. -/
theorem Frame.line_clean {f : Frame} (h : f.allowed) (w : Window) (n : Nat) : (rxScan ((f.line w).take n)).fault = none := by
  have short : ∀ n, n ≤ f.levels.length + 71 → (rxScan ((f.line w).take n)).fault = none := by
    intro n hn
    rw [f.line_eq]
    refine (carries_append f.span _).clean_tail (f.wholeSpan h _) (beatsRight_append _ _)
      (f.soundTo h le_rfl fun _ => rfl) (fun j b hj _ hb => ?_) hn
    rw [← f.line_eq] at hb
    exact f.line_end hj hb
  rcases Nat.le_total n (f.levels.length + 71) with hn | hn
  · exact short n hn
  · rw [List.take_of_length_le (by rw [f.length_line]; exact hn)]
    have whole := short _ le_rfl
    rwa [← f.length_line w, List.take_length] at whole

theorem Frame.levels_take_eq (f : Frame) {n : Nat} (hn : n ≤ f.levels.length) (w : Window) :
    f.levels.take n = (f.line w).take n := by
  rw [Frame.line, List.append_assoc, List.take_append_of_le_length hn]

/-- The window of stations that are all silent. -/
def quietWindow : Window := Vector.replicate 32 .absent

theorem Frame.levels_clean {f : Frame} (h : f.allowed) (n : Nat) : (rxScan (f.levels.take n)).fault = none := by
  have clean := f.line_clean h quietWindow (min n f.levels.length)
  rwa [← f.levels_take_eq (by omega), ← List.take_take, List.take_length] at clean

/-- What a station has read at the last check bit, and past it. -/
theorem Frame.line_reads {f : Frame} (h : f.allowed) {w : Window} {n : Nat} (hn : f.levels.length ≤ n)
    (hl : n ≤ f.levels.length + 71) : (rxScan ((f.line w).take n)).Reads f.span false
      ((windowLevels w ++ endField).take (min 64 (n - f.levels.length))) (min 7 (n - f.levels.length - 64)) := by
  have len := f.length_line w
  rw [f.line_eq] at len ⊢
  have reads := (carries_append f.span (windowLevels w ++ endField)).reads_tail (f.wholeSpan h _) hn (by omega)
  rwa [List.drop_left, List.take_take] at reads

/-- Settles O54: the frame is read from its span, the window from the levels behind it, and no level of the line shows a
fault. -/
theorem frameLevelsAreReadBack : Obligations.FrameLevelsAreReadBack := by
  intro f h
  refine ⟨?_, ?_, fun n => ?_, fun w => ⟨?_, ?_⟩⟩
  · rw [f.levels_eq, length_beaten, f.span_eq, f.length_spanWith, f.body.length_bits]
    rcases f.body <;> simp only <;> omega
  · have reads := f.line_reads h (w := quietWindow) le_rfl (by omega)
    rw [f.line_levels] at reads
    have clean := f.levels_clean h f.levels.length
    rw [List.take_length] at clean
    have done : spanLength f.span = some f.span.length := (f.wholeSpan h _).length
    rw [frameAtVerdict, Rx.frame, Rx.spanDone, reads.span, reads.win, clean, done]
    simpa using f.span_eq ▸ f.frameOf_spanWith h _
  · rw [rxFaultNow, f.levels_clean h]; simp
  · have reads := f.line_reads h (w := w) (n := f.levels.length + 71) (by omega) le_rfl
    have clean := f.line_clean h w (f.levels.length + 71)
    rw [← f.length_line w, List.take_length] at clean
    rw [← f.length_line w, List.take_length, f.length_line] at reads
    show (rxScan (f.line w)).window = some w
    rw [Rx.window, Rx.over, reads.fin, clean, reads.win, Nat.add_sub_cancel_left,
      List.take_append_of_le_length (by simp), List.take_of_length_le (by simp), windowOf_windowLevels]
    rfl
  · have clean := f.line_clean h w (f.levels.length + 71)
    rw [← f.length_line w, List.take_length] at clean
    show rxFaultNow (f.line w) = none
    rw [rxFaultNow, clean]; simp

end Sys2Proof.Machine
end

section
/-! SUPPORT. A frame received without a fault: its levels are sampled up to the verdict point, the verdict and the
completion (R29, R30, R33, R39). -/

namespace Sys2Proof.Machine

section
variable {f : Frame} {held levels : List Level} {w : Window} {n : Nat}

/-- Levels of a frame handed over in parts are read as one run. -/
theorem Frame.rxOn_line (h : f.allowed) (whole : held ++ levels = (f.line w).take n) :
    rxOn held levels = rxScan ((f.line w).take n) := by
  have clean := f.line_clean h w n
  rw [← whole] at clean
  rw [rxOn_clean held levels (rxScan_clean held levels clean), whole]

theorem Frame.spanDone_line (h : f.allowed) (hn : n ≤ (f.line w).length) :
    (rxScan ((f.line w).take n)).spanDone = decide (f.levels.length ≤ n) := by
  rw [f.line_eq] at hn ⊢
  exact (carries_append f.span _).spanDone_take (f.wholeSpan h _) hn

theorem Frame.phaseAt_line (h : f.allowed) (hn : n ≤ (f.line w).length) : phaseAt ((f.line w).take n) =
    if n < f.levels.length then .receiving else if n < f.levels.length + 64 then .window else .ending := by
  rw [f.line_eq] at hn ⊢
  exact (carries_append f.span _).phaseAt_take (f.wholeSpan h _) hn

/-- At the verdict point the frame is read, and short of it none. -/
theorem Frame.frame_line (h : f.allowed) (hn : n ≤ f.levels.length) :
    (rxScan ((f.line w).take n)).frame = if n = f.levels.length then some f else none := by
  have len := f.length_line w
  rw [Rx.frame, f.spanDone_line h (by omega), f.line_clean h]
  by_cases hlast : n = f.levels.length
  · have reads := f.line_reads h (w := w) hlast.ge (by omega)
    have frame := f.frameOf_spanWith h (crc f.covered).toNat
    rw [← f.span_eq] at frame
    rw [reads.span, reads.win, frame]
    simp [hlast]
  · simp [hlast]; omega

/-- The source field has been sampled from the 25th level on. -/
theorem Frame.sourceIsOwn_line (h : f.allowed) (hn : n ≤ f.levels.length) (own : Station) :
    sourceIsOwn own ((f.line w).take n) = decide (25 ≤ n ∧ f.source = own) := by
  rcases Nat.eq_zero_or_pos n with rfl | hpos
  · rfl
  have len := f.length_line w
  have last := (bitsBefore_beaten (f.wholeSpan h (crc f.covered).toNat).unbeaten).1
  have few : bitsBefore n ≤ f.span.length := (bitsBefore_mono hn).trans last.le
  have bits : (rxScan ((f.line w).take n)).span = f.span.take (bitsBefore n) := by
    rw [f.line_eq] at len ⊢
    exact ((carries_append f.span _).reads (f.wholeSpan h _).shorter hpos (by omega) few).span
  have place : 22 ≤ bitsBefore n ↔ 25 ≤ n := by unfold bitsBefore; omega
  rw [sourceIsOwn, bits, List.length_take, Nat.min_eq_left few]
  by_cases hp : 25 ≤ n
  · obtain ⟨-, -, -, source⟩ := f.header_fields (crc f.covered).toNat
    rw [stationAt, fieldAt_take (by omega), f.span_eq, source]
    simp [place, hp, Fin.ofNat_eq_cast]
  · simp [place, hp]

end

/-! ### The verdict point (R29, R30) -/

/-- Levels short of the verdict point are sampled, past the source field those of another station's frame alone. -/
theorem execFrameVerdictPoint_short {s : State} {levels : List Level} (phase : s.liu.phase = .receiving)
    (fault : s.liu.fault = none) (clean : (rxOn s.liu.sampled levels).fault = none)
    (short : (rxOn s.liu.sampled levels).spanDone = false) : exec (.frameVerdictPoint levels) s = .next
      (if sourceIsOwn s.own (s.liu.sampled ++ levels) = true then s else sampleOn s levels .receiving) := by
  have unread : (rxOn s.liu.sampled levels).frame = none := by simp [Rx.frame, short]
  cases hown : sourceIsOwn s.own (s.liu.sampled ++ levels) <;>
    simp [exec, execFrameVerdictPoint, phase, fault, unread, clean, short, hown, done]

/-- The frame read at the verdict point is judged, one of the own number is not. -/
theorem execFrameVerdictPoint_reached {s : State} {levels : List Level} {f : Frame} (phase : s.liu.phase = .receiving)
    (fault : s.liu.fault = none) (read : (rxOn s.liu.sampled levels).frame = some f) :
    exec (.frameVerdictPoint levels) s = .next (if f.source = s.own then s
      else { sampleOn s levels .window with verdict := some (verdictOn s f) }) := by
  by_cases hown : f.source = s.own <;> simp [exec, execFrameVerdictPoint, phase, fault, read, hown, done]

/-- Settles O35: the levels read so far show no fault, tell the frame at their last, and the source from the 25th on. -/
theorem verdictIsFixedAtTheLastCheckBit : Obligations.VerdictIsFixedAtTheLastCheckBit := by
  intro s levels f p hp h phase fault
  have own : s.own = p.station := by rw [State.own, hp]
  have read : ∀ m, m ≤ f.levels.length → s.liu.sampled ++ levels = f.levels.take m →
      rxOn s.liu.sampled levels = rxScan ((f.line quietWindow).take m) := fun m hm whole =>
    f.rxOn_line h (by rw [whole, f.levels_take_eq hm])
  have frame : s.liu.sampled ++ levels = f.levels → (rxOn s.liu.sampled levels).frame = some f := fun whole => by
    rw [read _ le_rfl (by rw [whole, List.take_length]), f.frame_line h le_rfl, if_pos rfl]
  refine ⟨fun m hm whole => ?_, fun whole other => ?_, fun whole same => ?_, rfl, ?_⟩
  · have short := f.spanDone_line h (w := quietWindow) (n := m) (by rw [f.length_line]; omega)
    rw [decide_eq_false (by omega)] at short
    rw [execFrameVerdictPoint_short phase fault (by rw [read m hm.le whole, f.line_clean h])
      (by rw [read m hm.le whole, short]), sampleOn_eq, whole, f.levels_take_eq hm.le quietWindow,
      f.sourceIsOwn_line h hm.le, own]
    simp only [decide_eq_true_eq, phase]
  · rw [execFrameVerdictPoint_reached phase fault (frame whole), own, if_neg other, sampleOn_eq, whole]
  · rw [execFrameVerdictPoint_reached phase fault (frame whole), own, if_pos same]
  · simp [verdictOn, answers]

/-! ### The completion (R33) -/

/-- The LIU between frames (R25, R37, R40). -/
theorem betweenFrames_eq (s : State) (w : Option Window) :
    betweenFrames s w = { s with liu := restingLiu s s.liu.joinQuiet w } := by
  simp only [betweenFrames, restingLiu, receiveOnly]
  congr 2
  simp only [Bool.or_eq_true, Bool.and_eq_true, decide_eq_true_eq]

/-- The join quiet counts the levels of a frame while JOINING (R40). -/
def quietAfter (s : State) (levels : List Level) : Nat :=
  if s.lifecycle = .joining then recessiveRun s.liu.joinQuiet levels else s.liu.joinQuiet

theorem countJoinQuiet_eq (s : State) (levels : List Level) :
    countJoinQuiet s levels = { s with liu := { s.liu with joinQuiet := quietAfter s levels } } := by
  unfold countJoinQuiet quietAfter
  split <;> rfl

theorem betweenFrames_countJoinQuiet (s : State) (levels : List Level) (w : Option Window) :
    betweenFrames (countJoinQuiet s levels) w = { s with liu := restingLiu s (quietAfter s levels) w } := by
  rw [countJoinQuiet_eq, betweenFrames_eq]
  rfl

/-- What a timer is started from: a verdict, the merge watch, evidence and the score leave it as it is. -/
def clockOf (s : State) : Lifecycle × Time × Option StationParams := (s.lifecycle, s.time, s.params)

theorem applyAccept_clock (s : State) (i : EntryIx) (source : Station) (b : FrameBody) (rs : ReasonSet) :
    clockOf (applyAccept s i source b rs) = clockOf s := by
  unfold applyAccept
  split <;> simp [clockOf]

theorem applyRefresh_clock (s : State) (i : EntryIx) (source : Station) (b : FrameBody) :
    clockOf (applyRefresh s i source b) = clockOf s := by
  unfold applyRefresh
  repeat' split
  case h_3 | h_4 | h_5 => exact applyAccept_clock ..
  all_goals simp [clockOf]

theorem applyVerdict_clock (s : State) (v : VerdictRecord) : clockOf (applyVerdict s v) = clockOf s := by
  unfold applyVerdict
  split
  · rfl
  · split
    · exact applyAccept_clock ..
    · exact applyRefresh_clock ..
    · simp [clockOf]
    · rfl
    · rfl
    · simp [clockOf]
    · unfold applyCede; repeat' split
      all_goals simp [clockOf]
    · unfold applyAssume; split <;> simp [clockOf]
    · unfold applyDepose; split <;> simp [clockOf]
    · simp [clockOf]
    · simp [clockOf]

theorem endMergeWatch_clock (s : State) (v : VerdictRecord) (w : Window) : clockOf (endMergeWatch s v w) = clockOf s := by
  unfold endMergeWatch judgeMergeWatch judgePullWindow pullTaken pullUnanswered
  repeat' split
  all_goals simp [clockOf]

theorem completionEvidence_clock (s : State) (f : Frame) (w : Window) : clockOf (completionEvidence s f w) = clockOf s := by
  unfold completionEvidence
  split <;> simp [clockOf]

/-- The blocks that take a completion before the announce timer and Station Control. -/
def heardCompletion (s : State) (v : VerdictRecord) (w : Window) : State :=
  scoreCompletion (completionEvidence (endMergeWatch (applyVerdict { s with verdict := none } v) v w) v.frame w)

theorem heardCompletion_clock (s : State) (v : VerdictRecord) (w : Window) : clockOf (heardCompletion s v w) = clockOf s := by
  have score : ∀ t, clockOf (scoreCompletion t) = clockOf t := by simp [clockOf]
  rw [heardCompletion, score, completionEvidence_clock, endMergeWatch_clock, applyVerdict_clock]
  rfl

theorem afterAnswer_of_online {s : State} (h : s.lifecycle = .online) (driven : Bool) : afterAnswer s driven =
    if driven then { s with announceTimer := some ⟨s.time, durationParam s (·.announce) 0⟩ } else s := by
  simp only [afterAnswer, restartAnnounceTimer, h, if_true, startTimer]

theorem afterAnswer_of_not_online {s : State} (h : s.lifecycle ≠ .online) (driven : Bool) : afterAnswer s driven = s := by
  simp [afterAnswer, restartAnnounceTimer, h]

/-- Levels short of the end of a frame with no fault are sampled. -/
theorem execReceivedFrameCompletion_short {s : State} {levels : List Level} {v : VerdictRecord}
    (phase : s.liu.phase = .window ∨ s.liu.phase = .ending) (receives : s.liu.contention ≠ .sending)
    (fault : s.liu.fault = none) (hv : s.verdict = some v) (clean : (rxOn s.liu.sampled levels).fault = none)
    (short : (rxOn s.liu.sampled levels).over = false) : exec (.receivedFrameCompletion levels) s = .next
      (sampleOn s levels (phaseAt (s.liu.sampled ++ levels))) := by
  simp [exec, execReceivedFrameCompletion, phase, receives, fault, hv, Rx.window, clean, short, done]

/-- The last end-field level completes the frame, presented to the blocks with the LIU between frames. -/
theorem execReceivedFrameCompletion_reached {s : State} {levels : List Level} {v : VerdictRecord} {w : Window}
    (phase : s.liu.phase = .window ∨ s.liu.phase = .ending) (receives : s.liu.contention ≠ .sending)
    (fault : s.liu.fault = none) (hv : s.verdict = some v) (read : (rxOn s.liu.sampled levels).window = some w)
    (last : levels ≠ [] → (rxOn s.liu.sampled levels.dropLast).over = false) :
    exec (.receivedFrameCompletion levels) s = .next
      (presentCompletion { s with liu := restingLiu s (quietAfter s levels) (some w) } v w) := by
  have ends : levels.isEmpty = true ∨ (rxOn s.liu.sampled levels.dropLast).over = false := by
    rw [List.isEmpty_iff]; exact (em _).imp_right last
  simp only [exec, execReceivedFrameCompletion, phase, receives, ne_eq, not_false_eq_true, fault, and_self, if_true, hv, read,
    ends, betweenFrames_countJoinQuiet, done]

theorem Frame.over_line {f : Frame} (h : f.allowed) {w : Window} {n : Nat} (hn : f.levels.length ≤ n)
    (hl : n ≤ (f.line w).length) : (rxScan ((f.line w).take n)).over = decide (n = (f.line w).length) := by
  have len := f.length_line w
  rw [Rx.over, (f.line_reads h hn (by omega)).fin, decide_eq_decide]
  omega

theorem Frame.window_line {f : Frame} (h : f.allowed) (w : Window) : (rxScan (f.line w)).window = some w :=
  ((frameLevelsAreReadBack f h).2.2.2 w).1

/-- Settles O41: short of its end the line shows no fault and no window, at its end the window sent; what each block does
then is its own operation, and the clock the announce timer starts from is the one before. -/
theorem completionIsPresentedToEveryBlock : Obligations.CompletionIsPresentedToEveryBlock := by
  rintro s levels whole v w phase receives fault hv h rfl quiet hquiet
  have read : ∀ m part, s.liu.sampled ++ part = (v.frame.line w).take m →
      rxOn s.liu.sampled part = rxScan ((v.frame.line w).take m) := fun m part eq => v.frame.rxOn_line h eq
  have same : quiet = quietAfter s levels := hquiet
  subst same
  refine ⟨fun m hm hl sampled => ?_, ?_⟩
  · have on := read m levels sampled
    rw [execReceivedFrameCompletion_short phase receives fault hv (by rw [on, v.frame.line_clean h])
      (by rw [on, v.frame.over_line h hm (Nat.le_of_lt hl)]; exact decide_eq_false (Nat.ne_of_lt hl)), sampleOn_eq, sampled]
    have at_place := v.frame.phaseAt_line h (w := w) (n := m) (Nat.le_of_lt hl)
    rw [if_neg (by omega)] at at_place
    rw [← at_place]
    rfl
  · rintro a b c d e sampled ha rfl hc hd rfl
    have whole : s.liu.sampled ++ levels = v.frame.line w := sampled
    have watched : c = endMergeWatch (applyVerdict a v) v w := hc
    have heard : d = completionEvidence c v.frame w := by
      rw [hd, completionEvidence]; cases v.frame.body <;> rfl
    have taken : scoreCompletion d = heardCompletion
        { s with liu := restingLiu s (quietAfter s levels) (some w) } v w := by rw [heard, watched, ha]; rfl
    have clock := heardCompletion_clock { s with liu := restingLiu s (quietAfter s levels) (some w) } v w
    rw [← taken] at clock
    simp only [clockOf, Prod.mk.injEq] at clock
    obtain ⟨lifecycle, time, params⟩ := clock
    have length := v.frame.length_line w
    have on : rxOn s.liu.sampled levels = rxScan (v.frame.line w) := by
      rw [read (v.frame.line w).length levels (by rw [whole, List.take_length]), List.take_length]
    have last : levels ≠ [] → (rxOn s.liu.sampled levels.dropLast).over = false := fun hne => by
      rw [read ((v.frame.line w).length - 1) _ (by
        rw [← List.dropLast_append_of_ne_nil hne, sampled, List.dropLast_eq_take, Frame.line]),
        v.frame.over_line h (by omega) (by omega)]
      exact decide_eq_false (by omega)
    have presented := execReceivedFrameCompletion_reached phase receives fault hv
      (by rw [on, v.frame.window_line h]) last
    rw [show ∀ x, presentCompletion x v w = afterCompletion (afterAnswer (heardCompletion x v w) v.driven) from
      fun _ => rfl, ← taken] at presented
    generalize scoreCompletion d = e at *
    refine ⟨lifecycle, _, presented, fun joining => ?_, fun online => ?_, fun quiet away => ?_⟩
    · rw [afterAnswer_of_not_online (by rw [lifecycle, joining]; decide), afterCompletion, lifecycle, joining, if_pos rfl]
      exact ⟨rfl, by simp [enterOnline]⟩
    · rw [afterAnswer_of_online (by rw [lifecycle, online]), time, durationParam, params, afterCompletion, if_neg]
      · rfl
      · split <;> simp [lifecycle, online]
    · rw [afterAnswer_of_not_online (by rw [lifecycle]; exact away), afterCompletion, lifecycle, if_neg quiet]

end Sys2Proof.Machine
end

section
/-! SUPPORT. A frame as its sender samples it: while the line shows what it drives it goes on, and the first level that
differs decides (R26 to R28, R32, R38). Of two frames driven together the lower arbitration value goes on. -/

namespace Sys2Proof.Machine

/-! ### From the start bit to the last check bit (R26 to R28) -/

/-- Levels sampled as driven take the sender on. -/
theorem txSpan_append (own : Station) (p driven sampled : List Level) (i run : Nat) :
    txSpan own i run (p ++ driven) (p ++ sampled)
      = txSpan own (i + p.length) (dominantRun run p) driven sampled := by
  induction p generalizing i run with
  | nil => rfl
  | cons b p ih =>
    rw [List.cons_append, List.cons_append, txSpan, if_pos rfl, ih, List.length_cons, Nat.add_right_comm, Nat.add_assoc]
    rfl

/-- What the first level that differs from the one driven decides, by its place. -/
theorem txSpan_differs (own : Station) (i run : Nat) {d b : Level} (h : d ≠ b) (driven : List Level) :
    txSpan own i run (d :: driven) [b] = if b then .fault .bit
      else if 1 ≤ i ∧ i ≤ 19 then .lostHeader
      else if 20 ≤ i ∧ i ≤ 24 then .lostSource
      else .fault (runKind (run + 1) .bit) := by
  cases b <;> simp [txSpan, h, decidedAt]

/-- A sender that has sampled what it drives goes on. -/
theorem txScan_take (f : Frame) (n : Nat) : txScan f (f.levels.take n) = .ongoing := by
  have whole := txSpan_append f.source (f.levels.take n) (f.levels.drop n) [] 0 0
  rw [List.take_append_drop, List.append_nil] at whole
  rw [txScan, whole]
  cases f.levels.drop n <;> simp [txSpan, txTail]

/-- What a sender finds at the first level that differs from the one it drives. -/
theorem txScan_differs (f : Frame) {n : Nat} {d b : Level} (hd : f.levels[n]? = some d) (h : d ≠ b) :
    txScan f (f.levels.take n ++ [b]) = if b then .fault .bit
      else if 1 ≤ n ∧ n ≤ 19 then .lostHeader
      else if 20 ≤ n ∧ n ≤ 24 then .lostSource
      else .fault (runKind (dominantRun 0 (f.levels.take n) + 1) .bit) := by
  obtain ⟨hn, rfl⟩ := List.getElem?_eq_some_iff.1 hd
  have whole := txSpan_append f.source (f.levels.take n) (f.levels[n] :: f.levels.drop (n + 1)) [b] 0 0
  rw [List.getElem_cons_drop, List.take_append_drop, List.length_take, Nat.min_eq_left hn.le, Nat.zero_add] at whole
  rw [txScan, whole, ← List.getElem_cons_drop hn, txSpan_differs _ _ _ h]

/-- Past the last check bit a sender that has sampled what it drives follows the window. -/
theorem txScan_append (f : Frame) (t : List Level) :
    txScan f (f.levels ++ t) = txTail f.source 0 [] (dominantRun 0 f.levels) false t := by
  have whole := txSpan_append f.source f.levels [] t 0 0
  rw [List.append_nil] at whole
  rw [txScan, whole, txSpan]

/-! ### The window and the end field as the sender samples them (R32, R38) -/

/-- Window levels with the own slot silent take the sender on. -/
theorem txTail_window (own : Station) (t rest : List Level) (n run : Nat) (seen : List Level) (ht : n + t.length ≤ 64)
    (silent : ∀ j, (n + j) / 2 = own.val → j < t.length → t[j]? = some true) :
    txTail own n seen run false (t ++ rest) = txTail own (n + t.length) (seen ++ t) (dominantRun run t) false rest := by
  induction t generalizing n run seen with
  | nil => simp [dominantRun]
  | cons b t ih =>
    rw [List.length_cons] at ht
    have unanswered : (false || (decide (n / 2 = own.val) && !b)) = false := by
      by_cases hslot : n / 2 = own.val
      · have own : b = true := by simpa using silent 0 hslot (by simp)
        simp [own]
      · simp [hslot]
    rw [List.cons_append, txTail, if_pos (by omega), unanswered, if_neg (by simp), ih _ _ _ (by omega)]
    · rw [List.length_cons, List.append_assoc, Nat.add_right_comm, Nat.add_assoc n]; rfl
    · intro j hj hl
      have := silent (j + 1) (by rw [← hj]; congr 1; omega) (by simpa using hl)
      simpa using this

/-- Recessive end-field levels take the sender on. -/
theorem txTail_fin (own : Station) (rest seen : List Level) (k n run : Nat) (answered : Bool) (hn : 64 ≤ n)
    (hk : n + k ≤ 71) : txTail own n seen run answered (List.replicate k true ++ rest)
      = txTail own (n + k) seen (dominantRun run (List.replicate k true)) answered rest := by
  induction k generalizing n run with
  | zero => rfl
  | succ k ih =>
    rw [List.replicate_succ, List.cons_append, txTail, if_neg (by omega), if_pos (by omega), if_pos rfl, ih _ _ (by omega)
      (by omega), Nat.add_right_comm, Nat.add_assoc]
    rfl

/-- The own slot of a window in which it was silent. -/
theorem windowLevels_silent {w : Window} {own : Station} (h : w[own] = .absent) {j : Nat} (hj : j / 2 = own.val) :
    (windowLevels w)[j]? = some true := by
  have slot := windowLevels_slot w own (show j % 2 < 2 by omega)
  rw [h, show 2 * own.val + j % 2 = j by omega] at slot
  rw [slot]
  rcases Nat.mod_two_eq_zero_or_one j with h | h <;> rw [h] <;> rfl

/-- What a sender finds with its own slot silent, after the window and part of the end field. -/
theorem txScan_fin (f : Frame) {w : Window} (h : w[f.source] = .absent) {k : Nat} (hk : k ≤ 7) (rest : List Level) :
    txScan f (f.levels ++ windowLevels w ++ List.replicate k true ++ rest) = txTail f.source (64 + k) (windowLevels w)
      (dominantRun 0 (f.levels ++ windowLevels w ++ List.replicate k true)) false rest := by
  rw [List.append_assoc, List.append_assoc, txScan_append, txTail_window _ _ _ _ _ _ (by simp) fun j hj _ =>
    windowLevels_silent h (by rwa [Nat.zero_add] at hj), length_windowLevels, Nat.zero_add, List.nil_append,
    txTail_fin _ _ _ _ _ _ _ le_rfl (by omega), dominantRun_append, dominantRun_append]

/-- Short of its end a line with the own slot silent decides nothing. -/
theorem txScan_line_short (f : Frame) {w : Window} (h : w[f.source] = .absent) {n : Nat} (hn : n < (f.line w).length) :
    txScan f ((f.line w).take n) = .ongoing := by
  rw [f.length_line] at hn
  rcases Nat.le_total n f.levels.length with hs | hs
  · rw [← f.levels_take_eq hs, txScan_take f n]
  rcases Nat.le_total n (f.levels.length + 64) with hw | hw
  · have cut : (f.line w).take n = f.levels ++ ((windowLevels w).take (n - f.levels.length) ++ []) := by
      rw [Frame.line, List.append_assoc, List.take_append, List.take_of_length_le hs,
        List.take_append_of_le_length (by simp; omega), List.append_nil]
    have len : ((windowLevels w).take (n - f.levels.length)).length = n - f.levels.length := by simp; omega
    rw [cut, txScan_append, txTail_window _ _ _ _ _ _ (by omega), txTail, if_neg (by omega)]
    intro j hj hl
    rw [List.getElem?_take_of_lt (by omega)]
    exact windowLevels_silent h (by rwa [Nat.zero_add] at hj)
  · have cut : (f.line w).take n = f.levels ++ windowLevels w ++ List.replicate (n - f.levels.length - 64) true ++ [] := by
      rw [Frame.line, List.take_append, List.take_of_length_le (by simp; omega), endField, List.take_replicate,
        List.append_nil]
      simp
      omega
    rw [cut, txScan_fin f h (by omega), txTail, if_neg (by omega)]

/-- A clean end field ends the frame with its window. -/
theorem txScan_line (f : Frame) {w : Window} (h : w[f.source] = .absent) : txScan f (f.line w) = .ended w := by
  have cut : f.line w = f.levels ++ windowLevels w ++ List.replicate 7 true ++ [] := by rw [List.append_nil]; rfl
  rw [cut, txScan_fin f h le_rfl, txTail, if_pos rfl, windowOf_windowLevels]

/-! ### Contention (R26, R27) -/

/-- Two spans that differ first at bit `i` make levels that differ first at its place. -/
theorem beaten_first_difference (p x y : List Bool) (a b : Bool) : ∃ s u v,
    beaten (p ++ a :: x) = s ++ a :: u ∧ beaten (p ++ b :: y) = s ++ b :: v ∧ s.length = placeOf p.length := by
  have next : ∀ k (c : Bool) (z : List Bool), ∃ u, insertBeats k (c :: z) = c :: u := fun k c z => by
    rw [insertBeats]; split <;> exact ⟨_, rfl⟩
  obtain ⟨u, hu⟩ := next ((0 + p.length) % 8) a x
  obtain ⟨v, hv⟩ := next ((0 + p.length) % 8) b y
  refine ⟨beaten p, u, v, ?_, ?_, length_beaten p⟩
  · rw [beaten, insertBeats_append (by omega), hu]; rfl
  · rw [beaten, insertBeats_append (by omega), hv]; rfl

/-- Class, key and kind are the bits of the arbitration value (00_scope, Arbitration value). -/
theorem Frame.span_arbitration (f : Frame) :
    ∃ t, f.span = natBits 17 f.arbitrationValue ++ (natBits 5 f.source.val ++ t) := by
  have kind := f.body.kindCode_lt
  have key := f.key.isLt
  refine ⟨f.body.bits ++ natBits 16 (crc f.covered).toNat, ?_⟩
  rw [f.span_eq, f.spanWith_eq, headerBits, natBits_append 2 12 _ _ key, natBits_append 14 3 _ _ (by omega), List.append_assoc,
    Frame.arbitrationValue]
  congr 2
  ring

/-- Where two frames drive alike up to a place and then `f` dominant and `g` recessive, `f` goes on and `g` has lost
contention there. -/
theorem contention_at {f g : Frame} {s u v : List Level} (hf : f.levels = s ++ false :: u) (hg : g.levels = s ++ true :: v) :
    txScan g ((lineOf f g).take (s.length + 1)) = (if 1 ≤ s.length ∧ s.length ≤ 19 then .lostHeader
        else if 20 ≤ s.length ∧ s.length ≤ 24 then .lostSource
        else .fault (runKind (dominantRun 0 (g.levels.take s.length) + 1) .bit)) ∧
      ∀ m, m ≤ s.length + 1 → txScan f ((lineOf f g).take m) = .ongoing := by
  have same : ∀ s : List Level, List.zipWith (· && ·) s s = s := fun s => by
    induction s with
    | nil => rfl
    | cons b s ih => rw [List.zipWith_cons_cons, ih, Bool.and_self]
  have line : lineOf f g = s ++ false :: List.zipWith (· && ·) u v := by
    rw [lineOf, hf, hg, List.zipWith_append rfl, same]; rfl
  have first : (lineOf f g).take (s.length + 1) = s ++ [false] := by
    rw [line, List.take_length_add_append]; rfl
  constructor
  · have cut : g.levels.take s.length = s := by rw [hg, List.take_left]
    have level : g.levels[s.length]? = some true := by rw [hg]; simp
    have found := txScan_differs g level (b := false) (by decide)
    rw [cut] at found
    rw [first, found, if_neg (by decide), cut]
  · intro m hm
    have driven : f.levels.take (s.length + 1) = s ++ [false] := by rw [hf, List.take_length_add_append]; rfl
    have own : (lineOf f g).take m = f.levels.take m := by
      rw [← Nat.min_eq_left hm, ← List.take_take, ← List.take_take, first, driven]
    rw [own, txScan_take f m]

/-- Settles O55: the first bit at which the headers, or at equal headers the sources, differ is dominant in the lower
frame. -/
theorem lowerArbitrationValueWins : Obligations.LowerArbitrationValueWins := by
  intro f g _ _
  obtain ⟨tf, hf⟩ := f.span_arbitration
  obtain ⟨tg, hg⟩ := g.span_arbitration
  have range : ∀ h : Frame, h.arbitrationValue < 2 ^ 17 := fun h => by
    have := h.cls.code_lt
    have := h.key.isLt
    have := h.body.kindCode_lt
    unfold Frame.arbitrationValue; omega
  constructor
  · intro lower
    obtain ⟨p, x, y, hx, hy⟩ := natBits_first_difference (n := 17) (u := f.arbitrationValue) (v := g.arbitrationValue)
      (by rwa [Nat.mod_eq_of_lt (range f), Nat.mod_eq_of_lt (range g)])
    have few : p.length < 17 := by
      have len := congrArg List.length hx
      rw [length_natBits, List.length_append, List.length_cons] at len
      omega
    rw [hx, List.append_assoc, List.cons_append] at hf
    rw [hy, List.append_assoc, List.cons_append] at hg
    obtain ⟨s, u, v, hu, hv, place⟩ := beaten_first_difference p (x ++ (natBits 5 f.source.val ++ tf))
      (y ++ (natBits 5 g.source.val ++ tg)) false true
    rw [← hf] at hu
    rw [← hg] at hv
    obtain ⟨lost, on⟩ := contention_at hu hv
    have header : 1 ≤ s.length ∧ s.length ≤ 19 := by unfold placeOf at place; omega
    rw [if_pos header] at lost
    exact ⟨s.length + 1, by omega, by rw [outcomeOf, lost], on⟩
  · intro equal lower
    obtain ⟨p, x, y, hx, hy⟩ := natBits_first_difference (n := 5) (u := f.source.val) (v := g.source.val)
      (by have := f.source.isLt; have := g.source.isLt; have : f.source.val < g.source.val := lower; omega)
    have few : p.length < 5 := by
      have len := congrArg List.length hx
      rw [length_natBits, List.length_append, List.length_cons] at len
      omega
    rw [hx, List.append_assoc, List.cons_append, ← List.append_assoc] at hf
    rw [hy, List.append_assoc, List.cons_append, ← List.append_assoc, ← equal] at hg
    obtain ⟨s, u, v, hu, hv, place⟩ := beaten_first_difference (natBits 17 f.arbitrationValue ++ p) (x ++ tf) (y ++ tg)
      false true
    rw [← hf] at hu
    rw [← hg] at hv
    obtain ⟨lost, on⟩ := contention_at hu hv
    have source : 20 ≤ s.length ∧ s.length ≤ 24 := by
      rw [List.length_append, length_natBits] at place
      unfold placeOf at place; omega
    rw [if_neg (by omega), if_pos source] at lost
    exact ⟨s.length + 1, by omega, by omega, by rw [outcomeOf, lost], on⟩

end Sys2Proof.Machine
end

section
/-! SUPPORT. The outcome of an own frame: which levels decide it, how the LIU goes on, and that every block takes it (R26,
R27, R38, R75). -/

namespace Sys2Proof.Machine

/-! ### Which levels decide an outcome (R26, R27, R38) -/

theorem sends_of {s : State} (sending : s.liu.contention = .sending)
    (phase : s.liu.phase = .sending ∨ s.liu.phase = .window ∨ s.liu.phase = .ending) : sends s = true := by
  rcases phase with h | h | h <;> simp [sends, sending, h]

/-- The levels decide an outcome of the frame in flight, and the blocks take it. -/
theorem execOwnFrameOutcome_decided {s : State} {fl : InFlight} {levels : List Level} {o : TxOutcome} {w : Option Window}
    (hf : s.inFlight = some fl) (whole : fl.destroyed = false) (hs : sends s = true)
    (decided : outcomeOf fl.content (s.liu.sampled ++ levels) = some (o, w)) :
    exec (.ownFrameOutcome levels) s = .next (handleOutcome (liuAfterOutcome s levels o w) fl o w) := by
  simp [exec, execOwnFrameOutcome, hf, whole, hs, decided, done]

/-- Levels that decide nothing are sampled. -/
theorem execOwnFrameOutcome_goesOn {s : State} {fl : InFlight} {levels : List Level}
    (hf : s.inFlight = some fl) (whole : fl.destroyed = false) (hs : sends s = true)
    (on : txScan fl.content (s.liu.sampled ++ levels) = .ongoing) :
    exec (.ownFrameOutcome levels) s = .next (sampleOn s levels (txPhaseAt fl.content (s.liu.sampled ++ levels))) := by
  simp [exec, execOwnFrameOutcome, hf, whole, hs, outcomeOf, on, done]

/-- A frame with its own slot silent is COMPLETED where a slot was answered, and UNHEARD elsewhere (R38). -/
theorem outcomeOf_line (f : Frame) {w : Window} (h : w[f.source] = .absent) [Decidable (∃ st : Station, w[st] ≠ .absent)] :
    outcomeOf f (f.line w) = some (if ∃ st : Station, w[st] ≠ .absent then .completed else .unheard, some w) := by
  have answered : answeredBesides f.source w = true ↔ ∃ st : Station, w[st] ≠ .absent := by
    simp only [answeredBesides, List.any_eq_true, List.mem_finRange, true_and, Bool.and_eq_true, decide_eq_true_eq]
    exact exists_congr fun st => ⟨And.right, fun hst => ⟨fun heq => hst (heq ▸ h), hst⟩⟩
  simp only [outcomeOf, txScan_line f h, answered]

theorem Frame.txPhaseAt_line (f : Frame) {w : Window} {n : Nat} (hn : n ≤ (f.line w).length) :
    txPhaseAt f ((f.line w).take n) = if n < f.levels.length then .sending
      else if n < f.levels.length + 64 then .window else .ending := by
  rw [txPhaseAt, List.length_take, Nat.min_eq_left hn]

/-! ### Contention lost at a beat (R26; log entry 30) -/

/-- Two stations that have read the same and await the same level. -/
structure Rx.Alike (r r' : Rx) : Prop where
  span : r.span = r'.span
  beat : r.beat = r'.beat
  win : r.win = r'.win
  fin : r.fin = r'.fin
  last : r.beat = true → r.last = r'.last

theorem Rx.Alike.step {r r' : Rx} (h : r.Alike r') (b : Level) :
    (r.step b).Alike (r'.step b) ∧ (r'.shows b = none → r.shows b = none) := by
  obtain ⟨span, beat, last, run, win, fin, fault, dominant⟩ := r
  obtain ⟨span', beat', last', run', win', fin', fault', dominant'⟩ := r'
  obtain ⟨rfl, rfl, rfl, rfl, hl⟩ := h
  simp only [Rx.shows, Rx.step, Rx.over, Rx.spanDone]
  by_cases ended : fin = 7
  · simp only [ended, decide_true, if_true]
    exact ⟨⟨rfl, rfl, rfl, rfl, hl⟩, id⟩
  simp only [ended, decide_false, Bool.false_eq_true, if_false]
  cases beat with
  | true =>
    obtain rfl := hl rfl
    simp only [if_true, Rx.stepBeat]
    split_ifs <;> exact ⟨⟨rfl, rfl, rfl, rfl, fun _ => rfl⟩, by simp [Rx.note, Rx.withFault, Rx.withDominant]⟩
  | false =>
    simp only [Bool.false_eq_true, if_false]
    split_ifs
    · simp only [Rx.stepTail]
      split_ifs <;> exact ⟨⟨rfl, rfl, rfl, rfl, fun _ => rfl⟩, by simp [Rx.note, Rx.withFault, Rx.withDominant]⟩
    · simp only [Rx.stepSpan]
      split_ifs <;> exact ⟨⟨rfl, rfl, rfl, rfl, fun _ => rfl⟩, by simp [Rx.note, Rx.withFault, Rx.withDominant]⟩

/-- What shows no fault to one shows none to the other. -/
theorem Rx.Alike.foldl (levels : List Level) {r r' : Rx} (h : r.Alike r') (clean : r.fault = none)
    (hc : (levels.foldl Rx.step r').fault = none) :
    (levels.foldl Rx.step r).Alike (levels.foldl Rx.step r') ∧ (levels.foldl Rx.step r).fault = none := by
  induction levels generalizing r r' with
  | nil => exact ⟨h, clean⟩
  | cons b bs ih =>
    have next := Rx.clean_of_foldl bs _ hc
    rw [Rx.step_fault_eq, Option.or_eq_none_iff] at next
    exact ih (h.step b).1 (by rw [Rx.step_fault_eq, clean, (h.step b).2 next.2]; rfl) hc

theorem Frame.carries (f : Frame) : Carries f.levels f.span := carries_beaten f.span

/-- A beat follows the inverse level, with the span bits before it read. -/
theorem Frame.beat_place {f : Frame} {k : Nat} (hk : 1 ≤ k) {b : Level} (hb : f.levels[9 * k]? = some b) :
    f.levels[9 * k - 1]? = some (!b) ∧ bitsBefore (9 * k) ≤ f.span.length ∧ 9 * k ≤ f.levels.length := by
  obtain ⟨hl, -⟩ := List.getElem?_eq_some_iff.1 hb
  have len : f.levels.length = f.span.length + f.span.length / 8 + 1 := length_beaten f.span
  exact ⟨beatsRight_beaten f.span k hk (by omega) b hb, by unfold bitsBefore; omega, hl.le⟩

/-- In the place of a beat the level before it once more is the irregularity. -/
theorem Frame.shows_beat {f : Frame} (h : f.allowed) {k : Nat} (hk : 1 ≤ k) {b : Level}
    (hb : f.levels[9 * k]? = some b) : (rxScan (f.levels.take (9 * k))).shows (!b) =
      some (if b then runKind (dominantRun 0 (f.levels.take (9 * k)) + 1) .beat else .beat) := by
  obtain ⟨before, bits, hl⟩ := Frame.beat_place hk hb
  rw [(f.carries.shows_beat (f.wholeSpan h _).shorter (by omega) hl bits (by omega) before (!b)).1, if_pos rfl]
  cases b <;> rfl

/-- At a beat due recessive a station that lost contention has read what one that saw the beat has. -/
theorem rxHeld_beat {f : Frame} (h : f.allowed) {k : Nat} (hk : 1 ≤ k) (hb : f.levels[9 * k]? = some true) :
    (rxHeld (f.levels.take (9 * k) ++ [false])).Alike (rxScan (f.levels.take (9 * k + 1))) ∧
      (rxHeld (f.levels.take (9 * k) ++ [false])).fault = none := by
  obtain ⟨-, bits, hl⟩ := Frame.beat_place hk hb
  have reads := f.carries.reads (f.wholeSpan h _).shorter (by omega) hl bits
  rw [decide_eq_true (by omega)] at reads
  obtain ⟨span, beat, win, fin⟩ := reads.step_beat (b := false)
  obtain ⟨span', beat', win', fin'⟩ := reads.step_beat (b := true)
  have wrong : ((rxScan (f.levels.take (9 * k))).step false).fault
      = some (runKind (dominantRun 0 (f.levels.take (9 * k)) + 1) .beat) := by
    have shown := f.shows_beat h hk hb
    rw [Bool.not_true, if_pos rfl] at shown
    rw [Rx.step_fault_eq, f.levels_clean h, shown, Option.none_or]
  have lost : rxHeld (f.levels.take (9 * k) ++ [false]) = { (rxScan (f.levels.take (9 * k))).step false with fault := none } := by
    rw [rxHeld, rxScan_concat (take_ne_nil (by omega) hb), if_pos]
    rw [wrong, runKind]
    split <;> simp
  rw [lost, rxScan_take_succ (by omega) hb]
  refine ⟨⟨span.trans span'.symm, beat.trans beat'.symm, win.trans win'.symm, fin.trans fin'.symm, fun due => ?_⟩, rfl⟩
  exact absurd (beat.symm.trans due) (by decide)

/-- A station that lost contention at a beat reads the frame that beat it to its verdict point. -/
theorem rxOn_after_beat {f : Frame} (h : f.allowed) {k : Nat} (hk : 1 ≤ k) (hb : f.levels[9 * k]? = some true) :
    (rxOn (f.levels.take (9 * k) ++ [false]) (f.levels.drop (9 * k + 1))).frame = some f := by
  obtain ⟨alike, clean⟩ := rxHeld_beat h hk hb
  have hn := take_ne_nil (show 1 ≤ 9 * k + 1 - 1 by omega) hb
  have rest : (f.levels.drop (9 * k + 1)).foldl Rx.step (rxScan (f.levels.take (9 * k + 1))) = rxScan f.levels := by
    have split := rxScan_append (f.levels.take (9 * k + 1)) (f.levels.drop (9 * k + 1))
    rw [List.take_append_drop, List.length_take, Nat.min_eq_left (List.getElem?_eq_some_iff.1 hb).1,
      Nat.sub_eq_zero_of_le (by omega), List.drop_zero] at split
    exact split.symm
  have whole := f.levels_clean h f.levels.length
  rw [List.take_length] at whole
  obtain ⟨ended, unhurt⟩ := alike.foldl (f.levels.drop (9 * k + 1)) clean (by rw [rest, whole])
  rw [rest] at ended
  have read : (rxScan f.levels).frame = some f := (frameLevelsAreReadBack f h).2.1
  rw [rxOn, List.length_append, List.length_singleton, Nat.sub_eq_zero_of_le (by omega), List.drop_zero, Rx.frame, Rx.spanDone,
    ended.span, ended.win, unhurt]
  rwa [Rx.frame, Rx.spanDone, whole] at read

/-! ### The outcome handled by every block (R75) -/

theorem fcuOutcome_clock (s : State) (o : TxOutcome) : clockOf (fcuOutcome s o) = clockOf s := by
  unfold fcuOutcome
  split <;> simp [clockOf]

theorem announceOutcome_lifecycle (s : State) (t : AnnounceType) (n : Nat) (o : TxOutcome) :
    (announceOutcome s t n o).1.lifecycle = s.lifecycle := by
  unfold announceOutcome
  repeat' split
  all_goals rfl

/-- The roster takes the window, and a COMPLETED frame starts the announce timer again while ONLINE. -/
theorem outcomeEvidence_eq (s : State) (o : TxOutcome) (w : Option Window) : outcomeEvidence s o w =
    match o, w with
    | .completed, some w => if s.lifecycle = .online
        then { takeEvidence s none w with announceTimer := some ⟨s.time, durationParam s (·.announce) 0⟩ }
        else takeEvidence s none w
    | .unheard, some w => takeEvidence s none w
    | _, _ => s := by
  cases o with
  | completed =>
    cases w with
    | none => rfl
    | some w =>
      show restartAnnounceTimer (takeEvidence s none w) = _
      simp only [restartAnnounceTimer, takeEvidence_lifecycle, takeEvidence_time, startTimer, durationParam,
        takeEvidence_params]
  | unheard => cases w <;> rfl
  | destroyed | outbid | collided => rfl

theorem outcomeEvidence_lifecycle (s : State) (o : TxOutcome) (w : Option Window) :
    (outcomeEvidence s o w).lifecycle = s.lifecycle := by
  rw [outcomeEvidence_eq]
  repeat' split
  all_goals simp

/-- The LIU on a report of the standing (R40, R148). -/
theorem reportStanding_eq (u : State) : reportStanding u = if u.lifecycle = .leaving ∧ u.fcu.standing = .muted then halt u
    else { u with liu := { u.liu with phase :=
      if u.lifecycle = .joining ∨ (u.fcu.standing = .muted ∧ u.lifecycle = .online)
        then (if u.liu.phase = .resting ∨ u.liu.phase = .idle then .listening else u.liu.phase)
        else (if u.liu.phase = .listening then .resting else u.liu.phase) } } := by
  rw [reportStanding]
  split
  · rfl
  · next stays =>
    have receives : receiveOnly u = true ↔ u.lifecycle = .joining ∨ (u.fcu.standing = .muted ∧ u.lifecycle = .online) := by
      simp only [receiveOnly, Bool.or_eq_true, Bool.and_eq_true, decide_eq_true_eq]
      tauto
    simp only [settleLiu, receives]
    split_ifs <;> rfl

/-- Settles O43: the levels decide by `txScan`, whose outcome each block takes in its own operation; after a loss at a beat
the frame is read on as if the beat had been right. -/
theorem ownFrameOutcomeIsHandled : Obligations.OwnFrameOutcomeIsHandled := by
  refine ⟨fun s levels idle => ?_, fun s fl levels hf => ⟨fun destroyed => ?_, fun alive sending phase => ⟨?_, ?_⟩⟩, ?_, ?_,
    reportStanding_eq⟩
  · simp [exec, execOwnFrameOutcome, idle, done]
  · simp [exec, execOwnFrameOutcome, hf, destroyed, done]
  · rintro w whole silent rfl
    refine ⟨fun sampled => ?_, fun m settled short sampled => ?_⟩
    · have decided := outcomeOf_line fl.content silent
      rw [← show s.liu.sampled ++ levels = fl.content.line w from sampled] at decided
      rw [execOwnFrameOutcome_decided hf alive (sends_of sending phase) decided]
      have ended : liuAfterOutcome s levels (if ∃ st : Station, w[st] ≠ .absent then .completed else .unheard) (some w)
          = { s with liu := restingLiu s s.liu.joinQuiet (some w) } := by
        rw [← betweenFrames_eq]; split <;> rfl
      rw [ended]
    · have on := txScan_line_short fl.content silent (n := m) short
      have sampled : s.liu.sampled ++ levels = (fl.content.line w).take m := sampled
      rw [execOwnFrameOutcome_goesOn hf alive (sends_of sending phase) (by rw [sampled, on]), sampleOn_eq, sampled,
        fl.content.txPhaseAt_line (Nat.le_of_lt short), if_neg settled]
      rfl
  · intro n sampled driven
    have found := txScan_differs fl.content driven (b := false) (by decide)
    rw [← sampled, if_neg (by decide)] at found
    refine ⟨fun h1 h19 => ?_, fun h20 h24 => ?_⟩
    · rw [if_pos ⟨h1, h19⟩] at found
      exact execOwnFrameOutcome_decided hf alive (sends_of sending phase) (by rw [outcomeOf, found])
    · rw [if_neg (by omega), if_pos ⟨h20, h24⟩] at found
      exact execOwnFrameOutcome_decided hf alive (sends_of sending phase) (by rw [outcomeOf, found])
  · rintro s fl o w a b rfl hb
    have clock := fcuOutcome_clock { s with inFlight := none } o
    simp only [clockOf, Prod.mk.injEq] at clock
    obtain ⟨lifecycle, time, params⟩ := clock
    have evidence : b = outcomeEvidence (fcuOutcome { s with inFlight := none } o) o w := by
      rw [hb, outcomeEvidence_eq, lifecycle, time]
      cases o <;> cases w <;> simp only [durationParam, params]
    have stays : b.lifecycle = s.lifecycle := by rw [evidence, outcomeEvidence_lifecycle, lifecycle]
    rw [handleOutcome, ← evidence, ownerOutcome]
    cases fl.request with
    | announce t => simp only [afterOutcome, announceOutcome_lifecycle, stays]
    | publish i | pull i | claim i | yield i => simp [afterOutcome]
  · intro s f p n levels hp settled h other place driven phase fault sampled hl
    obtain ⟨k, hk, rfl⟩ : ∃ k, 1 ≤ k ∧ n = 9 * k := by
      rcases place with rfl | rfl
      · exact ⟨1, by decide, rfl⟩
      · exact ⟨2, by decide, rfl⟩
    have read := rxOn_after_beat h hk driven
    rw [← sampled, ← hl] at read
    rw [execFrameVerdictPoint_reached phase fault read, State.own_of_params hp, if_neg other, sampleOn_eq, if_neg settled]

end Sys2Proof.Machine
end

section
/-! SUPPORT. Where and as what a receiver and a sender find each kind of fault (R22 to R24, R28, R32, R36). -/

namespace Sys2Proof.Machine

/-! ### A fault at a span bit (R23, R24) -/

theorem placeOf_spec (i : Nat) : placeOf i % 9 ≠ 0 ∧ bitsBefore (placeOf i) = i ∧ 1 ≤ placeOf i := by
  unfold placeOf bitsBefore; omega

/-- What is found at span bit `i`, sampled as `b`, where the bits before it show nothing. -/
theorem rxFaultNow_bit {span : List Bool} (hopen : OpenSpan span) {i : Nat} (hi : i < span.length)
    (sound : SoundTo span i) {b : Level} {p : List Bool} (hp : span.take i ++ [b] = p) :
    rxFaultNow ((beaten span).take (placeOf i) ++ [b]) =
      if atFillBit p && !b then some (runKind (dominantRun 0 ((beaten span).take (placeOf i)) + 1) .form)
      else if formViolation p then some .form
      else if spanLength p = some p.length && !checkMatches p then some .check
      else none := by
  obtain ⟨beat, bits, one⟩ := placeOf_spec i
  have carries := carries_beaten span
  have level : (beaten span)[placeOf i]? = some span[i] := by rw [carries.bit i hi, List.getElem?_eq_getElem hi]
  have clean := carries.clean hopen (beatsRight_beaten span) sound hi.le bits.le
  rw [rxFaultNow_concat (take_ne_nil one level) clean, (carries.shows_bit hopen one
    (List.getElem?_eq_some_iff.1 level).1.le (by omega) beat (p := p) (by rw [bits]; exact hp)).1]

/-- A span without its last beat, whose last bit is the first to show a field value that is not allowed. -/
theorem rxFaultNow_form {span : List Bool} (some_bit : span ≠ [])
    (fill : ∀ i, i < span.length → atFillBit (span.take (i + 1)) = true → span[i]? = some true)
    (short : ∀ i, i < span.length → spanLength (span.take (i + 1)) ≠ some (i + 1))
    (first : ∀ i, i + 1 < span.length → formViolation (span.take (i + 1)) = false)
    (last : formViolation (span.take span.length) = true) :
    rxFaultNow ((beaten span).take (placeOf (span.length - 1) + 1)) = some .form := by
  have pos := List.length_pos_of_ne_nil some_bit
  have hi : span.length - 1 < span.length := by omega
  have hopen : OpenSpan span := fun i hi => by
    cases i with
    | zero => simp [spanLength]
    | succ i => exact short i (by omega)
  have sound : SoundTo span (span.length - 1) := fun i hi =>
    ⟨fill i (by omega), first i (by omega), fun done => absurd done (short i (by omega))⟩
  have level : (beaten span)[placeOf (span.length - 1)]? = some span[span.length - 1] := by
    rw [(carries_beaten span).bit _ hi, List.getElem?_eq_getElem hi]
  have whole : span.take (span.length - 1) ++ [span[span.length - 1]] = span := by
    rw [← take_succ_eq (List.getElem?_eq_getElem hi), Nat.sub_add_cancel pos, List.take_length]
  have recessive := fill _ hi
  rw [Nat.sub_add_cancel pos, List.take_length, List.getElem?_eq_getElem hi, Option.some_inj] at recessive
  rw [take_succ_eq level, rxFaultNow_bit hopen hi sound whole, if_neg (by simpa using recessive),
    if_pos (by rwa [List.take_length] at last)]

/-- A span that ends in no beat is its levels to the last bit. -/
theorem beaten_take_last {span : List Bool} (h : span.length % 8 ≠ 0) :
    (beaten span).take (placeOf (span.length - 1) + 1) = beaten span := by
  rw [List.take_of_length_le]
  rw [length_beaten, placeOf]; omega

/-- A fill bit is known by the bits before it. -/
theorem atFillBit_concat {span : List Bool} {i : Nat} (h17 : 17 ≤ i) (hi : i < span.length) (b : Bool) :
    atFillBit (span.take i ++ [b]) = atFillBit (span.take (i + 1)) := by
  have len : (span.take i).length = i := by rw [List.length_take]; omega
  have kind : fieldAt (span.take i ++ [b]) 14 3 = fieldAt (span.take (i + 1)) 14 3 := by
    rw [fieldAt_append (by omega), fieldAt_take (by omega), fieldAt_take (by omega)]
  unfold atFillBit
  rw [kind, List.length_append, len, List.length_take, Nat.min_eq_left hi, List.length_singleton]

/-! ### A receiver's faults -/

theorem Frame.fillPlace_bounds {f : Frame} {n : Nat} (fill : f.fillPlace n) : n % 9 ≠ 0 ∧ 28 ≤ n ∧ n ≤ 38 := by
  unfold Frame.fillPlace at fill
  split at fill
  case h_4 | h_5 => exact fill.elim
  all_goals omega

/-- A check field that does not match is found at its last bit, and the frame is not read. -/
theorem rxFaultNow_wrongCheck {f : Frame} (h : f.allowed) {c : Nat} (hc : c < 65536) (wrong : c ≠ (crc f.covered).toNat) :
    rxFaultNow (wrongCheck f c) = some .check := by
  have whole := f.wholeSpan h c
  have len := f.length_spanWith c
  have hi : (f.spanWith c).length - 1 < (f.spanWith c).length := by omega
  have last := List.getElem?_eq_getElem hi
  have level : (beaten (f.spanWith c))[placeOf ((f.spanWith c).length - 1)]? = some (f.spanWith c)[(f.spanWith c).length - 1] := by
    rw [(carries_beaten _).bit _ hi, last]
  have all : (f.spanWith c).take ((f.spanWith c).length - 1) ++ [(f.spanWith c)[(f.spanWith c).length - 1]] = f.spanWith c := by
    rw [← take_succ_eq last, Nat.sub_add_cancel (by omega), List.take_length]
  have fill : ¬ f.fillPlace (placeOf ((f.spanWith c).length - 1)) := by
    intro fills
    have bounds := Frame.fillPlace_bounds fills
    unfold placeOf at bounds; omega
  have unfilled : atFillBit (f.spanWith c) = false := by
    rw [← f.atFillBit_spanWith hi, Nat.sub_add_cancel (by omega), List.take_length, Bool.not_eq_true] at fill
    exact fill
  have form := f.formViolation_spanWith h (c := c) le_rfl
  have unchecked := mt (f.checkMatches_spanWith hc).1 wrong
  rw [List.take_length] at form
  rw [wrongCheck_eq, ← beaten_take_last whole.unbeaten, take_succ_eq level,
    rxFaultNow_bit whole.shorter hi (f.soundTo h (by omega) fun e => absurd e (by omega)) all, unfilled, form, whole.length]
  simpa using unchecked

/-- A dominant fill bit is found where it stands (R24). -/
theorem rxFaultNow_fill {f : Frame} (h : f.allowed) {n : Nat} (fill : f.fillPlace n) :
    rxFaultNow (f.levels.take n ++ [false]) = some (runKind (dominantRun 0 (f.levels.take n) + 1) .form) := by
  have place : n % 9 ≠ 0 ∧ 17 ≤ bitsBefore n ∧ bitsBefore n < f.span.length := by
    have bounds := f.fillPlace_bounds fill
    rw [f.span_eq, f.length_spanWith]
    unfold bitsBefore; omega
  obtain ⟨beat, h17, hi⟩ := place
  have fills : atFillBit (f.span.take (bitsBefore n + 1)) = true :=
    (f.atFillBit_spanWith hi).2 (by rwa [placeOf_bitsBefore beat])
  have found := rxFaultNow_bit (f.wholeSpan h (crc f.covered).toNat).shorter hi (f.soundTo h hi.le fun _ => rfl) (b := false) rfl
  rw [placeOf_bitsBefore beat, ← f.span_eq, atFillBit_concat h17 hi, fills] at found
  exact found

/-- A dominant end-field bit is found where it stands, by a receiver and by a sender with its own slot silent. -/
theorem faultNow_end {f : Frame} {w : Window} {k : Nat} (hk : k < 7) :
    (f.allowed → rxFaultNow (f.levels ++ windowLevels w ++ List.replicate k true ++ [false]) =
      some (runKind (dominantRun 0 (f.levels ++ windowLevels w ++ List.replicate k true) + 1) .form)) ∧
    (w[f.source] = .absent → txFaultNow f (f.levels ++ windowLevels w ++ List.replicate k true ++ [false]) =
      some (runKind (dominantRun 0 (f.levels ++ windowLevels w ++ List.replicate k true) + 1) .bit)) := by
  constructor
  · intro h
    have len := f.length_line w
    have cut : f.levels ++ windowLevels w ++ List.replicate k true = (f.line w).take (f.levels.length + 64 + k) := by
      rw [Frame.line, List.take_append, List.take_of_length_le (by simp), endField, List.take_replicate]
      congr 2
      simp; omega
    have level : (f.line w)[f.levels.length + 64 + k]? = some true := by
      obtain ⟨b, hb⟩ : ∃ b, (f.line w)[f.levels.length + 64 + k]? = some b := ⟨_, List.getElem?_eq_getElem (by omega)⟩
      rw [hb, f.line_end (by omega) hb]
    rw [cut, rxFaultNow_concat (take_ne_nil (by omega) level) (f.line_clean h w _)]
    rw [f.line_eq] at len ⊢
    have shown := ((carries_append f.span (windowLevels w ++ endField)).shows_fin (f.wholeSpan h _)
      (n := f.levels.length + 64 + k) (Nat.le_add_right _ _) (by omega) (Nat.add_lt_add_left (by omega) _) false).1
    exact shown
  · intro silent
    rw [txFaultNow, txScan_fin f silent (by omega), txTail, if_neg (by omega), if_pos (by omega)]
    rfl

/-! ### A sender's faults (R28, R32) -/

/-- An answer in the own slot is found at its second level. -/
theorem txFaultNow_slot (f : Frame) {before : List Level} {a b : Level} (hb : before.length = 2 * f.source.val)
    (answered : a = false ∨ b = false) : txFaultNow f (f.levels ++ before ++ [a, b]) = some .slot := by
  have := f.source.isLt
  rw [txFaultNow, List.append_assoc, txScan_append, txTail_window _ _ _ _ _ _ (by omega) (fun j hj hl => by omega)]
  simp only [Nat.zero_add, hb]
  have second : (2 * f.source.val + 1) / 2 = f.source.val := by omega
  have first : 2 * f.source.val / 2 = f.source.val := by omega
  rw [txTail, if_pos (by omega), if_neg (by omega), txTail, if_pos (by omega), first, second, if_pos]
  · rfl
  · rcases answered with rfl | rfl <;> simp

/-! ### Field values that are not allowed (R24) -/

/-- A span that ends before its fill bits and shows an irregularity at its last bit alone. -/
theorem rxFaultNow_form_early {span : List Bool} {n : Nat} (len : span.length = n) (pos : 0 < n)
    (early : n ≤ 24 ∨ (n ≤ 27 ∧ fieldAt span 14 3 = 0)) (first : ∀ i, i < n → formViolation (span.take i) ≠ true)
    (last : formViolation (span.take n) = true) : rxFaultNow ((beaten span).take (placeOf (n - 1) + 1)) = some .form := by
  subst len
  refine rxFaultNow_form (List.ne_nil_of_length_pos pos) (fun i hi fill => ?_) (fun i hi done => ?_)
    (fun i hi => by simpa using first _ hi) last
  · rw [atFillBit_take hi] at fill; omega
  · have := spanLength_ge done; omega

/-- A key from 32 to 63. -/
theorem rxFaultNow_key {cls key : Nat} (low : 32 ≤ key) (high : key ≤ 63) :
    rxFaultNow (false :: insertBeats 0 (natBits 2 cls ++ natBits 12 key)) = some .form := by
  have len : (natBits 2 cls ++ natBits 12 key).length = 14 := by simp
  have read : fieldAt (natBits 2 cls ++ natBits 12 key) 2 12 = key := by
    rw [fieldAt_skip le_rfl, Nat.sub_self, fieldAt_last]; omega
  show rxFaultNow (beaten _) = _
  generalize natBits 2 cls ++ natBits 12 key = span at *
  rw [← beaten_take_last (by omega), len]
  refine rxFaultNow_form_early len (by omega) (by omega) (fun i hi => ?_)
    ((formViolation_take len.ge).2 (.inl ⟨rfl, by omega, by omega⟩))
  rw [Ne, formViolation_take (by omega)]; omega

/-- A kind that is not allowed, or not with its class or key. -/
theorem rxFaultNow_kind {cls key kind : Nat} (hc : cls < 4) (hk : key < 4096) (allowed : key < 32 ∨ 63 < key) (hd : kind < 8)
    (wrong : 5 ≤ kind ∨ (cls = 0 ∧ kind ≠ 4) ∨ (cls ≠ 0 ∧ kind = 4) ∨ (key < 32 ∧ kind ≠ 4)) :
    rxFaultNow (false :: insertBeats 0 (natBits 2 cls ++ natBits 12 key ++ natBits 3 kind)) = some .form := by
  rw [List.append_assoc]
  have len : (natBits 2 cls ++ (natBits 12 key ++ natBits 3 kind)).length = 17 := by simp
  have class_read : fieldAt (natBits 2 cls ++ (natBits 12 key ++ natBits 3 kind)) 0 2 = cls := by
    rw [fieldAt_here]; omega
  have key_read : fieldAt (natBits 2 cls ++ (natBits 12 key ++ natBits 3 kind)) 2 12 = key := by
    rw [fieldAt_skip le_rfl, Nat.sub_self, fieldAt_here]; omega
  have kind_read : fieldAt (natBits 2 cls ++ (natBits 12 key ++ natBits 3 kind)) 14 3 = kind := by
    rw [fieldAt_skip (by omega), fieldAt_skip (by omega), fieldAt_last]; omega
  show rxFaultNow (beaten _) = _
  generalize natBits 2 cls ++ (natBits 12 key ++ natBits 3 kind) = span at *
  rw [← beaten_take_last (by omega), len]
  refine rxFaultNow_form_early len (by omega) (by omega) (fun i hi => ?_)
    ((formViolation_take len.ge).2 (.inr (.inl ⟨rfl, ?_⟩)))
  · clear wrong
    rw [Ne, formViolation_take (by omega), key_read]; omega
  · rw [class_read, key_read, kind_read]
    rcases wrong with h | h | ⟨hc, hd⟩ | h
    · exact .inl h
    · exact .inr (.inl h)
    · exact .inr (.inr (.inl ⟨hd, hc⟩))
    · exact .inr (.inr (.inr h))

/-- An ANNOUNCE whose key is not its source. -/
theorem rxFaultNow_announce_key {key source : Nat} (allowed : key < 32 ∨ 63 < key) (hk : key < 4096) (hs : source < 32)
    (wrong : key ≠ source) : rxFaultNow (false :: insertBeats 0 (headerBits 0 key 4 source)) = some .form := by
  have len := length_headerBits 0 key 4 source
  have fields := fieldAt_headerBits (show 0 < 4 by omega) hk (show 4 < 8 by omega) hs []
  rw [List.append_nil] at fields
  obtain ⟨cls, key_read, kind, source_read⟩ := fields
  show rxFaultNow (beaten _) = _
  generalize headerBits 0 key 4 source = span at *
  rw [← beaten_take_last (by omega), len]
  refine rxFaultNow_form_early len (by omega) (by omega) (fun i hi => ?_)
    ((formViolation_take len.ge).2 (.inr (.inr (.inl ⟨rfl, kind, by omega⟩))))
  rw [Ne, formViolation_take (by omega), cls, key_read, kind]; omega

/-- An ANNOUNCE of type 3; the beat behind its type is not sampled. -/
theorem rxFaultNow_announce_type {source : Nat} (hs : source < 32) :
    rxFaultNow ((false :: insertBeats 0 (headerBits 0 source 4 source ++ natBits 2 3)).take 27) = some .form := by
  have len : (headerBits 0 source 4 source ++ natBits 2 3).length = 24 := by simp
  obtain ⟨cls, key, kind, source_read⟩ :=
    fieldAt_headerBits (show 0 < 4 by omega) (show source < 4096 by omega) (show 4 < 8 by omega) hs (natBits 2 3)
  have type : fieldAt (headerBits 0 source 4 source ++ natBits 2 3) 22 2 = 3 := by
    rw [fieldAt_after_header le_rfl, Nat.sub_self, fieldAt_last]; rfl
  show rxFaultNow ((beaten _).take 27) = _
  generalize headerBits 0 source 4 source ++ natBits 2 3 = span at *
  refine rxFaultNow_form_early len (by omega) (by omega) (fun i hi => ?_)
    ((formViolation_take len.ge).2 (.inr (.inr (.inr (.inl ⟨rfl, kind, type⟩)))))
  rw [Ne, formViolation_take (by omega), cls, key, kind, source_read]; omega

section
variable {cls key source : Nat} (lowest : 1 ≤ cls) (hc : cls < 4) (high : 64 ≤ key) (hk : key < 4096) (hs : source < 32)
include lowest hc high hk hs

/-- A YIELD to its own source. -/
theorem rxFaultNow_yield_self :
    rxFaultNow (false :: insertBeats 0 (headerBits cls key 0 source ++ natBits 5 source)) = some .form := by
  have len : (headerBits cls key 0 source ++ natBits 5 source).length = 27 := by simp
  obtain ⟨cls_read, key_read, kind, source_read⟩ := fieldAt_headerBits hc hk (show 0 < 8 by omega) hs (natBits 5 source)
  have owner : fieldAt (headerBits cls key 0 source ++ natBits 5 source) 22 5 = source := by
    rw [fieldAt_after_header le_rfl, Nat.sub_self, fieldAt_last]; omega
  show rxFaultNow (beaten _) = _
  generalize headerBits cls key 0 source ++ natBits 5 source = span at *
  rw [← beaten_take_last (by omega), len]
  refine rxFaultNow_form_early len (by omega) (by omega) (fun i hi => ?_)
    ((formViolation_take len.ge).2 (.inr (.inr (.inr (.inr (.inl ⟨rfl, kind, by omega⟩))))))
  rw [Ne, formViolation_take (by omega), cls_read, key_read, kind]; omega

variable {g v len : Nat} (hg : g < 256) (hv : v < 256) (long : 13 ≤ len) (hl : len < 16)
include hg hv long hl

/-- A PUBLISH of more than 12 payload bytes. -/
theorem rxFaultNow_publish_length :
    rxFaultNow (false :: insertBeats 0 (headerBits cls key 2 source ++ natBits 8 g ++ natBits 8 v ++ natBits 4 len))
      = some .form := by
  rw [List.append_assoc, List.append_assoc]
  have whole : (headerBits cls key 2 source ++ (natBits 8 g ++ (natBits 8 v ++ natBits 4 len))).length = 42 := by simp
  obtain ⟨cls_read, key_read, kind, source_read⟩ := fieldAt_headerBits hc hk (show 2 < 8 by omega) hs
    (natBits 8 g ++ (natBits 8 v ++ natBits 4 len))
  obtain ⟨-, -, shown⟩ := fieldAt_counters hg hv hl []
  have length_read := fieldAt_after_header (show 22 ≤ 38 by omega) cls key 2 source
    (natBits 8 g ++ (natBits 8 v ++ natBits 4 len)) 4
  rw [List.append_nil] at shown
  rw [shown] at length_read
  show rxFaultNow (beaten _) = _
  generalize headerBits cls key 2 source ++ (natBits 8 g ++ (natBits 8 v ++ natBits 4 len)) = span at *
  rw [← beaten_take_last (by omega)]
  refine rxFaultNow_form (List.ne_nil_of_length_pos (by omega)) (fun i hi fill => ?_) (fun i hi done => ?_) (fun i hi => ?_)
    ((formViolation_take le_rfl).2 (.inr (.inr (.inr (.inr (.inr (.inl ⟨whole, kind, by omega⟩)))))))
  · rw [atFillBit_take hi, kind] at fill; omega
  · rw [spanLength_take hi, kind, length_read] at done
    simp at done; omega
  · rw [← Bool.not_eq_true, formViolation_take hi.le, cls_read, key_read, kind]; omega

/-- A YIELD of more than 12 payload bytes. -/
theorem rxFaultNow_yield_length {owner : Nat} (ho : owner < 32) (other : owner ≠ source) :
    rxFaultNow (false :: insertBeats 0 (headerBits cls key 0 source ++ natBits 5 owner ++ [true, true, true] ++ natBits 8 g
      ++ natBits 8 v ++ natBits 4 len)) = some .form := by
  simp only [List.append_assoc]
  have whole : (headerBits cls key 0 source ++ (natBits 5 owner ++ ([true, true, true] ++ (natBits 8 g ++
      (natBits 8 v ++ natBits 4 len))))).length = 50 := by simp
  obtain ⟨cls_read, key_read, kind, source_read⟩ := fieldAt_headerBits hc hk (show 0 < 8 by omega) hs
    (natBits 5 owner ++ ([true, true, true] ++ (natBits 8 g ++ (natBits 8 v ++ natBits 4 len))))
  obtain ⟨-, -, shown⟩ := fieldAt_counters hg hv hl []
  have length_read := fieldAt_after_header (show 22 ≤ 46 by omega) cls key 0 source
    (natBits 5 owner ++ ([true, true, true] ++ (natBits 8 g ++ (natBits 8 v ++ natBits 4 len)))) 4
  have owner_read := fieldAt_after_header (show 22 ≤ 22 by omega) cls key 0 source
    (natBits 5 owner ++ ([true, true, true] ++ (natBits 8 g ++ (natBits 8 v ++ natBits 4 len)))) 5
  rw [List.append_nil] at shown
  rw [fieldAt_after_newOwner (by omega), shown] at length_read
  rw [Nat.sub_self, fieldAt_newOwner ho] at owner_read
  have fills : ∀ i, 27 ≤ i → i ≤ 29 → (headerBits cls key 0 source ++ (natBits 5 owner ++ ([true, true, true] ++
      (natBits 8 g ++ (natBits 8 v ++ natBits 4 len)))))[i]? = some true := fun i low high => by
    have places : i = 27 ∨ i = 28 ∨ i = 29 := by omega
    rcases places with rfl | rfl | rfl <;> simp
  show rxFaultNow (beaten _) = _
  generalize headerBits cls key 0 source ++ (natBits 5 owner ++ ([true, true, true] ++ (natBits 8 g ++
    (natBits 8 v ++ natBits 4 len)))) = span at *
  rw [← beaten_take_last (by omega)]
  refine rxFaultNow_form (List.ne_nil_of_length_pos (by omega)) (fun i hi fill => ?_) (fun i hi done => ?_) (fun i hi => ?_)
    ((formViolation_take le_rfl).2 (.inr (.inr (.inr (.inr (.inr (.inr ⟨whole, kind, by omega⟩)))))))
  · rw [atFillBit_take hi, kind] at fill; exact fills i (by omega) (by omega)
  · rw [spanLength_take hi, kind, length_read] at done
    simp at done; omega
  · rw [← Bool.not_eq_true, formViolation_take hi.le, cls_read, key_read, kind, source_read, owner_read]; omega

end

/-- Settles O49: every fault is what the level it is found at shows, where the levels before it show none. -/
theorem faultsAreFoundAsTheManualSays : Obligations.FaultsAreFoundAsTheManualSays := by
  refine ⟨fun f n h hn => ?_, fun f c h hc wrong => ?_, fun cls key _ low high => rxFaultNow_key low high,
    fun cls key kind hc hk allowed hd wrong => rxFaultNow_kind hc hk allowed hd wrong,
    fun key source allowed hk hs wrong => rxFaultNow_announce_key allowed hk hs wrong,
    fun source hs => rxFaultNow_announce_type hs,
    fun cls key source len g v lowest hc high hk hs long hl =>
      ⟨rxFaultNow_publish_length lowest hc high hk hs g.isLt v.isLt long hl, fun owner ho other =>
        rxFaultNow_yield_length lowest hc high hk hs g.isLt v.isLt long hl ho other⟩,
    fun cls key source lowest hc high hk hs => rxFaultNow_yield_self lowest hc high hk hs,
    fun f n h fill => ?_, fun f w k levels h hk hl => ?_, fun f n => ⟨fun hd => ?_, fun hd h25 => ?_⟩,
    fun f before a b hb answered => txFaultNow_slot f hb answered⟩
  · refine ⟨fun hb => ?_, fun hb => ?_⟩
    · rw [rxFaultNow_concat (take_ne_nil (by omega) hb) (f.levels_clean h _)]
      exact f.shows_beat h hn hb
    · have shown := f.shows_beat h hn hb
      rw [Bool.not_true, if_pos rfl] at shown
      rw [rxFaultNow_concat (take_ne_nil (by omega) hb) (f.levels_clean h _), shown, Option.some_inj, Option.some_inj]
      exact runKind_dominantRun _ _
  · have found := rxFaultNow_wrongCheck h hc wrong
    refine ⟨found, ?_⟩
    have faulty : (rxScan (wrongCheck f c)).fault = some .check := by
      rw [rxFaultNow] at found
      split at found
      · exact found
      · cases found
    simp [frameAtVerdict, Rx.frame, faulty]
  · rw [rxFaultNow_fill h fill, Option.some_inj, Option.some_inj]
    exact runKind_dominantRun _ _
  · subst hl
    obtain ⟨received, sent⟩ := faultNow_end (f := f) (w := w) hk
    rw [received h, Option.some_inj, Option.some_inj]
    refine ⟨(runKind_dominantRun _ _).1, (runKind_dominantRun _ _).2, fun silent => ?_⟩
    rw [sent silent, Option.some_inj, Option.some_inj]
    exact runKind_dominantRun _ _
  · rw [txFaultNow, txScan_differs f hd (by decide), if_pos rfl]
  · have found : txFaultNow f (f.levels.take n ++ [false]) = some (runKind (dominantRun 0 (f.levels.take n) + 1) .bit) := by
      rw [txFaultNow, txScan_differs f hd (by decide), if_neg (by decide), if_neg (by omega), if_neg (by omega)]
    rw [found, Option.some_inj, Option.some_inj]
    exact runKind_dominantRun _ _

end Sys2Proof.Machine
end

section
/-! SUPPORT. Medium access: the gap, start bits and the join quiet (R25, R40, R162), and what each phase drives (R39). -/

namespace Sys2Proof.Machine

/-! ### The gap and the join quiet (R25, R40, R162) -/

theorem applicableGap_eq {s : State} (h : s.fcu.standing ≠ .muted) :
    applicableGap s = if s.fcu.standing = .good then 4 else 16 := by
  unfold applicableGap
  cases hs : s.fcu.standing <;> simp_all

/-- The roster with one record replaced. -/
theorem mapRoster_own (s : State) (own : Station) (r : RosterRecord) :
    (s.mapRoster fun st old => if st = own then r else old) = { s with roster := s.roster.set own r } := by
  have roster : (Vector.ofFn fun st : Station => if st = own then r else s.roster[st]) = s.roster.set own r := by
    refine Vector.ext fun j hj => ?_
    rw [Vector.getElem_ofFn, Vector.getElem_set]
    by_cases h : own.val = j
    · rw [if_pos h, if_pos (Fin.ext h.symm)]
    · rw [if_neg h, if_neg fun e => h (congrArg Fin.val e).symm]
      rfl
  rw [State.mapRoster, roster]

/-- JOIN raised: it takes the place of a PRESENT and is absorbed by another announce (R66). -/
theorem combineAnnounce_join (present : Option AnnounceRequest) : combineAnnounce present ⟨.join, 0⟩ =
    some (match present with | none | some ⟨.present, _⟩ => ⟨.join, 0⟩ | some a => a) := by
  rcases present with _ | ⟨_ | _ | _, n⟩ <;> rfl

/-- A LISTENING station that is not receive-only is RESTING (R40). -/
theorem settleLiu_listening {s : State} (listening : s.liu.phase = .listening) (sending : receiveOnly s = false) :
    settleLiu s = { s with liu := { s.liu with phase := .resting } } := by
  rw [settleLiu, sending, if_neg Bool.false_ne_true, if_pos listening]

/-- The period timer of every publisher entry replaced. -/
theorem mapRt_periodTimer (s : State) (x : ItemConfig → Timer) :
    (s.mapRt fun _ c r => if r.role = .publisher then { r with periodTimer := x c } else r) = { s with
      entries := Vector.ofFn fun i => ⟨s.cfg i, { s.rt i with
        periodTimer := if (s.rt i).role = .publisher then x (s.cfg i) else (s.rt i).periodTimer }⟩ } := by
  have entry : ∀ (c : ItemConfig) (r : Runtime),
      (if r.role = .publisher then { r with periodTimer := x c } else r)
        = { r with periodTimer := if r.role = .publisher then x c else r.periodTimer } := fun c r => by
    split <;> rfl
  simp only [State.mapRt, entry]
  rfl

/-- What entry to ONLINE from the join quiet leaves (R162). -/
theorem enterOnline_listening {s : State} {p : StationParams} (hp : s.params = some p)
    (listening : s.liu.phase = .listening) (unmuted : s.fcu.standing ≠ .muted) : enterOnline s = { s with
      lifecycle := .online
      entries := Vector.ofFn fun i => ⟨s.cfg i, { s.rt i with periodTimer :=
        if (s.rt i).role = .publisher then
          (if (s.cfg i).periodic = true then some ⟨s.time, (s.cfg i).period⟩ else none)
        else (s.rt i).periodTimer }⟩
      roster := s.roster.set p.station ⟨.present, none⟩
      announceTimer := some ⟨s.time, p.announce⟩
      announce := some (match s.announce with | none | some ⟨.present, _⟩ => ⟨.join, 0⟩ | some a => a)
      flags := s.flags ||| 0x01
      liu := { s.liu with phase := .resting } } := by
  have period : ∀ c : ItemConfig, periodOnEntry { s with lifecycle := .online } c
      = if c.periodic = true then some ⟨s.time, c.period⟩ else none := fun c => by simp [periodOnEntry, startTimer]
  unfold enterOnline
  simp only [period, mapRt_periodTimer]
  simp only [mapRoster_own, raiseAnnounce, setFlag, combineAnnounce_join, State.own, hp, startTimer, durationParam]
  rw [settleLiu_listening]
  case listening => exact listening
  case sending => simp [receiveOnly, unmuted]
  rfl

/-- Settles O31: the counts move first, and the gap or the quiet is then compared with its limit. -/
theorem gapsStartBitsAndJoinQuiet : Obligations.GapsStartBitsAndJoinQuiet := by
  refine ⟨fun n s resting unmuted => ?_, fun s between => ?_, fun n s p joining listening unmuted hp => ?_⟩
  · have counted : countGap s n = { s with liu := { s.liu with gap := s.liu.gap + n } } := if_pos (.inl resting)
    have limit : applicableGap (countGap s n) = if s.fcu.standing = .good then 4 else 16 := by
      rw [counted]; exact applicableGap_eq (s := { s with liu := { s.liu with gap := s.liu.gap + n } }) unmuted
    rw [exec, execLineFree]
    simp only [limit]
    rw [counted]
    simp only [resting, true_and, done]
    split_ifs <;> rfl
  · rw [exec, execStartBitOfAnotherStation, if_pos (by tauto)]
    rfl
  · have counted : countGap s n = { s with liu := { s.liu with gap := s.liu.gap + n } } := if_pos (.inr listening)
    rw [exec, execJoinQuiet, if_pos ⟨joining, listening⟩, counted]
    refine ⟨fun short => ?_, fun reached => ?_⟩
    · exact if_neg (Nat.not_le.2 short)
    · have entered := enterOnline_listening (p := p)
        (s := { s with liu := { s.liu with gap := s.liu.gap + n, joinQuiet := s.liu.joinQuiet + n } })
        hp listening unmuted
      exact (if_pos reached).trans (congrArg done entered)

/-! ### What each phase drives (R39, R40, R71) -/

theorem foldl_lowerOf_ne_none (l : List (Nat × Request)) (b : Nat × Request) : l.foldl lowerOf (some b) ≠ none := by
  induction l generalizing b with
  | nil => exact Option.some_ne_none b
  | cons x l ih =>
    rw [List.foldl_cons, lowerOf]
    split <;> exact ih _

/-- Something is offered where something is eligible (R71). -/
theorem offer_isSome_iff (s : State) : (offer s).isSome = true ↔ eligible s ≠ [] := by
  rw [offer, Option.isSome_map, Option.isSome_iff_ne_none]
  cases h : eligible s with
  | nil => simp
  | cons x l => simpa [lowerOf] using foldl_lowerOf_ne_none l x

/-- The requests of one entry that are eligible while the station may send (R71). -/
theorem mem_eligibleOf (s : State) (i : EntryIx) (q : Request) : (∃ n, (n, q) ∈ eligibleOf s i) ↔
    (q = .yield i ∧ (s.rt i).pending.yield = true) ∨ (q = .claim i ∧ (s.rt i).pending.claim = true) ∨
    (q = .publish i ∧ (s.rt i).pending.publish.isSome = true ∧ (s.rt i).inhibitTimer = none) ∨
    (q = .pull i ∧ (s.rt i).pending.pull = true) := by
  simp only [eligibleOf, List.mem_append, List.mem_ite_nil_right, List.mem_singleton, Prod.mk.injEq, exists_or,
    Option.isNone_iff_eq_none, exists_and_left, exists_and_right, exists_eq, true_and]
  tauto

/-- The list of eligible requests holds exactly those of R71's table. -/
theorem mem_eligible (s : State) (q : Request) : (∃ n, (n, q) ∈ eligible s) ↔ isEligible s q := by
  have entries : (∃ n, (n, q) ∈ if maySend s then (List.finRange 128).flatMap (eligibleOf s) else []) ↔
      (s.lifecycle = .online ∧ s.fcu.standing ≠ .muted) ∧ ∃ i, ∃ n, (n, q) ∈ eligibleOf s i := by
    simp only [List.mem_ite_nil_right, List.mem_flatMap, List.mem_finRange, true_and, maySend, Bool.and_eq_true,
      decide_eq_true_eq]
    rw [exists_and_left, exists_comm]
  have announced : (∃ n, (n, q) ∈ match s.announce with
      | some a => if announceEligible s a.type then [(arbitration .system s.own.val 4, Request.announce a.type)] else []
      | none => []) ↔ ∃ a, s.announce = some a ∧ announceEligible s a.type = true ∧ q = .announce a.type := by
    cases s.announce <;> simp
  simp only [eligible, List.mem_append, exists_or]
  refine (or_congr announced entries).trans ?_
  simp only [mem_eligibleOf]
  cases q with
  | announce t =>
    cases ha : s.announce with
    | none => simp [isEligible, isPending, ha]
    | some a =>
      obtain ⟨t', n⟩ := a
      simp only [isEligible, isPending, ha, announceEligible]
      cases t <;> cases t' <;> simp
  | publish i | pull i | claim i | yield i =>
    simp [isEligible, isPending, and_assoc, and_comm, and_left_comm]

theorem answers_iff (s : State) :
    answers s = true ↔ (s.lifecycle = .online ∨ s.lifecycle = .leaving) ∧ s.fcu.standing ≠ .muted := by
  simp [answers]

/-- Something is offered where some request is eligible. -/
theorem offer_isSome_iff_isEligible (s : State) : (offer s).isSome = true ↔ ∃ q, isEligible s q := by
  simp only [offer_isSome_iff, ← mem_eligible, ← List.isEmpty_eq_false_iff, List.isEmpty_eq_false_iff_exists_mem,
    Prod.exists]
  exact exists_comm

/-- Settles O34: one line of R39's column for each phase, the driven slot by its place in the window. -/
theorem eachPhaseDrivesItsColumn : Obligations.EachPhaseDrivesItsColumn := by
  refine ⟨fun s p hp => ⟨fun silent => ?_, fun phase => ?_, fun active unmuted => ?_⟩,
    fun s fl n active unmuted hf undestroyed sending phase hn sampled => ?_⟩
  · exact drives_of_not_answers (Bool.eq_false_iff.2 fun h => silent ((answers_iff s).1 h))
  · rw [State.drives]
    rcases phase with h | h | h | h | h | h <;> simp [h]
  · have own := State.own_of_params hp
    have answering : answers s = true := (answers_iff s).2 ⟨active, unmuted⟩
    refine ⟨fun phase empty => ?_, fun fl phase hf => ?_, fun phase silent => ?_,
      fun v seen phase receiving hv sampled => ?_, fun phase => ?_⟩
    · simp [State.drives, answering, phase, empty, ← offer_isSome_iff_isEligible]
    · have drives : s.drives = fl.content.levels.getD s.liu.sampled.length true := by
        simp [State.drives, answering, phase, hf]
      rw [drives, List.getD_eq_getElem?_getD]
      rcases Nat.lt_or_ge s.liu.sampled.length fl.content.levels.length with h | h
      · rw [Nat.min_eq_left h.le, List.getElem?_append_left h, List.getElem?_eq_getElem h, Option.getD_some]
      · rw [Nat.min_eq_right h, List.getElem?_eq_none h]
        simp
    · rcases silent with h | h
      · cases hv : s.verdict <;> simp [State.drives, answering, phase, h, sends, hv]
      · simp [State.drives, answering, phase, h]
    · have drives : s.drives = slotDrive p.station v (v.frame.levels ++ seen) := by
        simp [State.drives, answering, phase, hv, sends, receiving, own, sampled]
      rw [drives, slotDrive, List.length_append, Nat.add_sub_cancel_left]
      refine ⟨fun quiet => by simp [quiet], fun driven => ⟨fun first => ?_, fun second => ?_, fun other other' => ?_⟩⟩
      · have place : seen.length / 2 = p.station.val ∧ seen.length % 2 = 0 := by omega
        simp only [driven, place, and_self, if_true]
        cases v.answer <;> decide
      · have place : seen.length / 2 = p.station.val ∧ seen.length % 2 = 1 := by omega
        simp only [driven, place, and_self, if_true]
        cases v.answer <;> decide
      · exact if_neg fun h => by omega
    · simp [State.drives, answering, phase]
  · have drives : s.drives = fl.content.levels[n] := by
      simp [State.drives, (answers_iff s).2 ⟨active, unmuted⟩, phase, hf, sampled, Nat.min_eq_left hn.le, hn]
    have next : s.liu.sampled ++ [s.drives] = fl.content.levels.take (n + 1) := by
      rw [sampled, drives, List.take_append_getElem]
    have settled : s.lifecycle ≠ .joining := by rcases active with h | h <;> simp [h]
    rw [execOwnFrameOutcome_goesOn hf undestroyed (sends_of sending (.inl phase)) (next ▸ txScan_take _ _), sampleOn_eq,
      if_neg settled, next, txPhaseAt, List.length_take, Nat.min_eq_left hn,
      if_pos (show n + 1 < fl.content.levels.length + 64 by omega)]

end Sys2Proof.Machine
end

section
/-! SUPPORT. A fault found by a sender and by a receiver (R34, R35, R37), recovery, and the silent end of a frame (R37). -/

namespace Sys2Proof.Machine

/-! ### A fault found (R34, R35, R37) -/

/-- A mark is owed by a GOOD station that is not JOINING, for every fault but SLOT (R35, R40). -/
theorem sendsMark_eq (s : State) (k : FaultKind) :
    sendsMark s k = decide (s.fcu.standing = .good ∧ s.lifecycle ≠ .joining ∧ k ≠ .slot) := by
  rw [Bool.eq_iff_iff]
  simp only [sendsMark, receiveOnly, Bool.and_eq_true, Bool.not_eq_true', Bool.or_eq_false_iff, Bool.and_eq_false_iff,
    decide_eq_true_eq, decide_eq_false_iff_not]
  constructor
  · rintro ⟨⟨good, joining, -⟩, slot⟩
    exact ⟨good, joining, slot⟩
  · rintro ⟨good, joining, slot⟩
    exact ⟨⟨good, joining, .inl (by simp [good])⟩, slot⟩

/-- The LIU after a fault: it marks, at the end field for CHECK, or goes on in `silent` (R35, R37). -/
def faultedLiu (liu : Liu) (marks : Bool) (silent : LiuPhase) (sampled : List Level) (k : FaultKind) : Liu :=
  { liu with
    sampled := sampled, contention := .none, fault := some k
    phase := if marks = true then (if k = .check then .window else .aborting) else silent
    markBits := if marks = true then (if k = .check then 72 else 8) else 0
    recovery := 0 }

theorem liuOnFault_eq (s : State) (sampled : List Level) (k : FaultKind) :
    liuOnFault s sampled k = { s with
      liu := faultedLiu s.liu (sendsMark s k)
        (if lengthKnown sampled = true then phaseAt sampled else .recovering) sampled k } := rfl

/-- The fault that the levels show first at their last is found, held levels that end in it included (R26). -/
theorem rxFaultOn_of_faultNow {held levels : List Level} {k : FaultKind} (now : rxFaultNow (held ++ levels) = some k)
    (shown : levels = [] → k = .form ∨ k = .check) : rxFaultOn held levels = some k := by
  rcases List.eq_nil_or_concat levels with none' | ⟨l, b, rfl⟩
  · subst none'
    rw [List.append_nil, rxFaultNow] at now
    split at now
    · next clean =>
      have kept : rxHeld held = rxScan held := if_neg (by rw [now]; rcases shown rfl with h | h <;> simp [h])
      simp [rxFaultOn, rxOn, rxHeld_clean _ (Option.isNone_iff_eq_none.1 clean), clean, kept, now]
    · cases now
  · exact rxFaultOn_of_now held _ k (by simp) now

/-- Settles O50: the sender owes its mark by standing and kind, the receiver by standing and lifecycle. -/
theorem faultFoundEndsTheFrame : Obligations.FaultFoundEndsTheFrame := by
  rintro s levels sampled k rfl silent rfl
  refine ⟨fun fl active sending phase unmuted hf found kind => ?_,
    fun marks hmarks life phase receives fault other now kind shown => ?_⟩
  · have settled : s.lifecycle ≠ .joining := by rcases active with h | h <;> simp [h]
    have check : k ≠ .check := by rcases kind with h | h | h <;> simp [h]
    simp only [exec, execFaultFound, sends_of sending phase, if_true, hf, found, senderFault, noteFault, liuOnFault_eq,
      faultedLiu, sendsMark_eq, settled, check, if_false, done, ne_eq, not_false_eq_true, true_and, decide_eq_true_eq]
  · have silentSender : sends s = false := by simp [sends, receives]
    have slot : k ≠ .slot := by rcases kind with h | h | h | h <;> simp [h]
    have owed : sendsMark (countJoinQuiet s levels) k = marks := by
      rw [sendsMark_eq, countJoinQuiet_eq, hmarks]
      simp [slot]
    have receiver : receiverFault s levels k = reportStanding (scoreReceiverFault (abandonMergeWatch
        { liuOnFault (countJoinQuiet s levels) (s.liu.sampled ++ levels) k with verdict := none }) k) := rfl
    rw [liuOnFault_eq, owed, countJoinQuiet_eq] at receiver
    simp only [exec, execFaultFound, silentSender, phase, fault, other, rxFaultOn_of_faultNow now shown, receiver, done,
      if_true, and_self, Bool.false_eq_true, if_false]
    rfl

end Sys2Proof.Machine
end

section
/-! SUPPORT. Recovery at seven recessive bits, and a frame followed silently with at most one thing amiss (R35, R37). -/

namespace Sys2Proof.Machine

/-! ### Seven recessive bits in a row (R37) -/

theorem replicate_append_cons (n : Nat) (l : List Level) :
    List.replicate n true ++ true :: l = List.replicate (n + 1) true ++ l := by
  rw [List.replicate_succ', List.append_assoc]; rfl

/-- The first seven recessive bits in a row end the recovery. -/
theorem sevenRecessive_of_first {n : Nat} (hn : n < 7) {l before : List Level}
    (h : List.replicate n true ++ l = before ++ List.replicate 7 true) (first : sevenAtTheEnd before) :
    sevenRecessive n l = true := by
  induction l generalizing n before with
  | nil =>
    have len := congrArg List.length h
    simp at len
    omega
  | cons b l ih =>
    cases b with
    | true =>
      rw [replicate_append_cons] at h
      by_cases last : n = 6
      · subst last
        simpa [sevenRecessive] using first [] l h.symm
      · simpa [sevenRecessive, last] using ih (by omega) h first
    | false =>
      have rest : ∃ c, before = List.replicate n true ++ [false] ++ c ∧ l = c ++ List.replicate 7 true := by
        rw [List.append_cons] at h
        rcases List.append_eq_append_iff.1 h with ⟨c, hb, hl⟩ | ⟨c, hb, hl⟩
        · exact ⟨c, hb, hl⟩
        · rcases List.eq_nil_or_concat c with rfl | ⟨c, x, rfl⟩
          · exact ⟨[], by simpa using hb.symm, by simpa using hl.symm⟩
          · rw [List.concat_eq_append, ← List.append_assoc] at hb
            have dominant : false = x := (List.append_inj' hb rfl).2 |> List.singleton_inj.1
            have recessive : x ∈ List.replicate 7 true := by rw [hl]; simp
            exact absurd (dominant.trans (List.eq_of_mem_replicate recessive)) (by decide)
      obtain ⟨c, rfl, rfl⟩ := rest
      have goes_on := ih (n := 0) (before := c) (by omega) rfl fun x y hxy =>
        first (List.replicate n true ++ [false] ++ x) y (by rw [List.append_assoc, hxy]; simp)
      simpa [sevenRecessive] using goes_on

/-- Short of seven in a row the recessive bits are counted. -/
theorem shortRun_of_never {n : Nat} (hn : n < 7) {l : List Level}
    (h : ∀ x y, List.replicate n true ++ l ≠ x ++ List.replicate 7 true ++ y) :
    shortRun n l = some (recessiveRun n l) ∧ sevenRecessive n l = false := by
  induction l generalizing n with
  | nil => exact ⟨rfl, rfl⟩
  | cons b l ih =>
    cases b with
    | true =>
      rw [replicate_append_cons] at h
      have room : n ≠ 6 := by rintro rfl; exact h [] l rfl
      simpa [shortRun, sevenRecessive, room, recessiveRun] using ih (by omega) h
    | false =>
      have goes_on := ih (n := 0) (by omega) fun x y hxy =>
        h (List.replicate n true ++ false :: x) y (by rw [show l = _ from hxy]; simp)
      simpa [shortRun, sevenRecessive, recessiveRun] using goes_on

/-- Levels that start the recovery after `k` of them, with `row` recessive bits before: seven in a row end it. -/
theorem execLineRecovered_seven {s : State} {levels before : List Level} {k row : Nat} (hr : row < 7)
    (unmarked : ¬ (s.liu.markBits ≠ 0 ∧ levels.length ≤ s.liu.markBits)) (start : recoveryStart s levels = some (k, row))
    (h : List.replicate row true ++ levels.drop k = before ++ List.replicate 7 true) (first : sevenAtTheEnd before) :
    exec (.lineRecovered levels) s = .next { s with liu := restingLiu s (quietAfter s levels) none } := by
  rw [exec, execLineRecovered, if_neg unmarked, start]
  simp only [sevenRecessive_of_first hr h first, if_true, betweenFrames_countJoinQuiet, done]

/-- Fewer than seven in a row are counted in RECOVERING. -/
theorem execLineRecovered_short {s : State} {levels : List Level} {k row : Nat} (hr : row < 7)
    (unmarked : ¬ (s.liu.markBits ≠ 0 ∧ levels.length ≤ s.liu.markBits)) (start : recoveryStart s levels = some (k, row))
    (h : ∀ x y, List.replicate row true ++ levels.drop k ≠ x ++ List.replicate 7 true ++ y) :
    exec (.lineRecovered levels) s = .next { s with liu := { s.liu with
      phase := .recovering, markBits := 0, recovery := recessiveRun row (levels.drop k), joinQuiet := quietAfter s levels } } := by
  obtain ⟨short, never⟩ := shortRun_of_never hr h
  rw [exec, execLineRecovered, if_neg unmarked, start]
  simp only [never, short, Bool.false_eq_true, if_false, countJoinQuiet_eq, enterRecovering, done]

/-- Bit times of a mark, none after its end (R35, R39). -/
theorem execLineRecovered_mark {s : State} {levels : List Level} (marked : s.liu.markBits ≠ 0)
    (hl : levels.length ≤ s.liu.markBits) : exec (.lineRecovered levels) s = .next { s with liu := { s.liu with
      phase := markPhase (s.liu.markBits - levels.length), markBits := s.liu.markBits - levels.length, recovery := 0
      joinQuiet := quietAfter s levels } } := by
  rw [exec, execLineRecovered, if_pos ⟨marked, hl⟩, countJoinQuiet_eq]
  rfl

/-! ### A further irregularity (R37) -/

/-- The following breaks off at the first level that is dominant where recessive was due. -/
theorem breakAfter_eq {before mid : List Level} (hne : before ≠ []) (rest : List Level)
    (quiet : ∀ j, j ≤ mid.length → (rxScan (before ++ mid.take j)).dominant = (rxScan before).dominant)
    (strikes : (rxScan (before ++ mid)).strikes false = true) :
    breakAfter before (mid ++ [false] ++ rest) (mid ++ [false] ++ rest).length = some mid.length := by
  rw [breakAfter, List.find?_range_eq_some]
  refine ⟨?_, ?_, fun j hj => ?_⟩
  · have struck : (mid ++ [false] ++ rest).take (mid.length + 1) = mid ++ [false] := List.take_left' (by simp)
    have all := quiet mid.length le_rfl
    rw [List.take_length] at all
    rw [struck, ← List.append_assoc, rxScan_concat (by simp [hne]), Rx.step_dominant_eq, strikes, all]
    simp
  · simp
  · have short : (mid ++ [false] ++ rest).take (j + 1) = mid.take (j + 1) := by
      rw [List.append_assoc, List.take_append_of_le_length hj]
    rw [short, quiet _ hj]
    simp

theorem recoveryStart_followed {s : State} {levels : List Level} {k : Nat}
    (phase : s.liu.phase = .receiving ∨ s.liu.phase = .window ∨ s.liu.phase = .ending) (fault : s.liu.fault ≠ none)
    (unmarked : s.liu.markBits = 0) (broken : breakAfter s.liu.sampled levels levels.length = some k) :
    recoveryStart s levels = some (k + 1, 0) := by
  rcases phase with h | h | h <;> simp [recoveryStart, unmarked, h, fault, broken]

end Sys2Proof.Machine
end

section
/-! SUPPORT. The lines of a frame with at most one thing amiss, as a station follows them silently (R37). -/

namespace Sys2Proof.Machine

/-! ### A line followed silently (R37) -/

/-- A line as long as that of `f` that carries `span`, with the fill bits of `f`, and from place `m` on nothing amiss. -/
structure Followed (f : Frame) (span : List Bool) (m : Nat) (whole : List Level) : Prop where
  length : whole.length = f.levels.length + 71
  carries : Carries whole span
  spanned : WholeSpan span
  ends : (beaten span).length = f.levels.length
  fills : ∀ i, i < span.length → (atFillBit (span.take (i + 1)) = true ↔ f.fillPlace (placeOf i))
  beats : ∀ n, 1 ≤ n → m ≤ n → n % 9 = 0 → n < f.levels.length → ∀ b, whole[n]? = some b → whole[n - 1]? = some (!b)
  recessive : ∀ n, m ≤ n → f.fillPlace n ∨ f.levels.length + 64 ≤ n → ∀ b, whole[n]? = some b → b = true

theorem Frame.length_levels_ge (f : Frame) : 43 ≤ f.levels.length := by
  rw [f.levels_eq, length_beaten, f.span_eq, f.length_spanWith]; omega

section
variable {f : Frame} {span : List Bool} {m : Nat} {whole : List Level}

/-- No level of the line strikes from `m` on, and a dominant one strikes wherever a level to be checked is recessive. -/
theorem Followed.strikes (h : Followed f span m whole) {n : Nat} (one : 1 ≤ n) (hm : m ≤ n) {b : Level}
    (hb : whole[n]? = some b) : (rxScan (whole.take n)).strikes b = false ∧
      (f.fixedPlace n → b = true → (rxScan (whole.take n)).strikes false = true) := by
  have hl : n < whole.length := (List.getElem?_eq_some_iff.1 hb).1
  have length := h.length
  have ends := h.ends
  have long := f.length_levels_ge
  have span_length := length_beaten span
  by_cases past : f.levels.length ≤ n
  · by_cases window : n < f.levels.length + 64
    · refine ⟨(h.carries.shows_win h.spanned (by omega) hl.le (by omega) b).2, fun fixed => ?_⟩
      rcases fixed with fixed | fill | fixed
      · omega
      · have := f.fillPlace_bounds fill; omega
      · omega
    · have shown := fun c => (h.carries.shows_fin h.spanned (n := n) (by omega) hl.le (by omega) c).2
      obtain rfl := h.recessive n hm (.inr (by omega)) b hb
      exact ⟨shown true, fun _ _ => shown false⟩
  · by_cases beat : n % 9 = 0
    · have before := h.beats n one hm beat (by omega) b hb
      have shown := fun c => (h.carries.shows_beat h.spanned.shorter one hl.le (by unfold bitsBefore; omega) beat before c).2
      refine ⟨by rw [shown]; cases b <;> rfl, fun _ recessive => by rw [shown, recessive]; rfl⟩
    · have bits : bitsBefore n < span.length := by
        have := h.spanned.unbeaten
        unfold bitsBefore; omega
      have fills := h.fills _ bits
      rw [placeOf_bitsBefore beat] at fills
      have shown := fun c => (h.carries.shows_bit h.spanned.shorter one hl.le bits beat (b := c) rfl).2
      have bit : span.take (bitsBefore n) ++ [b] = span.take (bitsBefore n + 1) := by
        rw [List.take_add_one, ← h.carries.bit _ bits, placeOf_bitsBefore beat, hb]; rfl
      constructor
      · rw [shown, bit]
        by_cases fill : f.fillPlace n
        · rw [h.recessive n hm (.inl fill) b hb, Bool.not_true, Bool.and_false]
        · rw [Bool.eq_false_iff.2 (mt fills.1 fill), Bool.false_and]
      · rintro (fixed | fill | fixed) -
        · exact absurd fixed.2.1 beat
        · have place := f.fillPlace_bounds fill
          rw [shown, atFillBit_concat (by unfold bitsBefore; omega) bits, fills.2 fill]; rfl
        · omega

/-- From `m` on the count of dominant irregularities stays. -/
theorem Followed.dominant (h : Followed f span m whole) (one : 1 ≤ m) {n : Nat} (hn : m ≤ n) :
    (rxScan (whole.take n)).dominant = (rxScan (whole.take m)).dominant :=
  rxScan_take_dominant one hn fun _ _ hm _ hb => (h.strikes (one.trans hm) hm hb).1

/-- The line is over at its last level. -/
theorem Followed.over (h : Followed f span m whole) {n : Nat} (one : 1 ≤ n) (hn : n ≤ whole.length) :
    (rxScan (whole.take n)).over = decide (n = whole.length) := by
  have length := h.length
  have ends := h.ends
  by_cases past : f.levels.length ≤ n
  · have reads := h.carries.reads_tail h.spanned (n := n) (by omega) hn
    rw [Rx.over, reads.fin, decide_eq_decide]; omega
  · have span_length := length_beaten span
    have reads := h.carries.reads h.spanned.shorter one hn (by unfold bitsBefore; omega)
    rw [reads.not_over (by omega), decide_eq_false (by omega)]

end

/-! ### The lines with at most one thing amiss -/

/-- A frame, whatever stands in its check field, with any window and a clean end field. -/
theorem followed_spanWith {f : Frame} (h : f.allowed) (c : Nat) (w : Window) :
    Followed f (f.spanWith c) 0 (beaten (f.spanWith c) ++ (windowLevels w ++ endField)) := by
  have ends : (beaten (f.spanWith c)).length = f.levels.length := by
    rw [f.levels_eq, length_beaten, length_beaten, f.span_eq, f.length_spanWith, f.length_spanWith]
  refine ⟨by simp [ends, endField], carries_append _ _, f.wholeSpan h c, ends, fun i hi => f.atFillBit_spanWith hi,
    fun n one _ beat hn b hb => ?_, fun n _ due b hb => ?_⟩
  · have span_length := length_beaten (f.spanWith c)
    have right := beatsRight_append (f.spanWith c) (windowLevels w ++ endField) (n / 9) (by omega) (by omega) b
    rw [show 9 * (n / 9) = n by omega] at right
    exact right hb
  · rcases due with fill | past
    · obtain ⟨beat, low, high⟩ := f.fillPlace_bounds fill
      have bits : bitsBefore n < (f.spanWith c).length := by rw [f.length_spanWith]; unfold bitsBefore; omega
      have bit := (carries_append (f.spanWith c) (windowLevels w ++ endField)).bit _ bits
      rw [placeOf_bitsBefore beat, hb, f.fill_recessive (by rwa [placeOf_bitsBefore beat])] at bit
      exact Option.some_inj.1 bit
    · rw [← List.append_assoc, List.getElem?_append_right (by simp; omega)] at hb
      exact List.eq_of_mem_replicate (List.mem_of_getElem? hb)

/-- A span whose bit `i`, one in the places of fill bits, is another has the same fields that tell its layout. -/
theorem spanLength_set {span : List Bool} {i n : Nat} (low : 24 ≤ i) (high : i ≤ 33) (b : Bool) (hn : n ≤ span.length) :
    spanLength ((span.set i b).take n) = spanLength (span.take n) := by
  rw [spanLength_take (by simpa using hn), spanLength_take hn, fieldAt_set (by omega), fieldAt_set (by omega),
    fieldAt_set (by omega)]

theorem WholeSpan.set {span : List Bool} (h : WholeSpan span) {i : Nat} (low : 24 ≤ i) (high : i ≤ 33) (b : Bool) :
    WholeSpan (span.set i b) where
  shorter j hj := by
    rw [List.length_set] at hj
    rw [spanLength_set low high b hj.le]
    exact h.shorter j hj
  length := by
    have whole := spanLength_set low high b (le_refl span.length)
    rw [List.take_length, h.length] at whole
    rwa [List.length_set, ← List.take_length (l := span.set i b), List.length_set]
  unbeaten := by rw [List.length_set]; exact h.unbeaten

section
variable {f : Frame} {span : List Bool} {m n : Nat} {whole : List Level} {b : Level}

/-- The line with the level at place `n` another, where the next is no beat. -/
theorem Followed.set (h : Followed f span 0 whole) (hn : n < m) (unbeaten : (n + 1) % 9 = 0 → f.levels.length ≤ n + 1)
    {span' : List Bool} (carries : Carries (whole.set n b) span') (spanned : WholeSpan span')
    (same : span'.length = span.length)
    (kind : ∀ i, i < span.length → atFillBit (span'.take (i + 1)) = atFillBit (span.take (i + 1))) :
    Followed f span' m (whole.set n b) where
  length := by rw [List.length_set, h.length]
  carries := carries
  spanned := spanned
  ends := by rw [length_beaten, same, ← length_beaten, h.ends]
  fills i hi := by rw [kind i (same ▸ hi)]; exact h.fills i (same ▸ hi)
  beats j one hj beat hl c hc := by
    rw [List.getElem?_set_ne (by omega)] at hc
    rw [List.getElem?_set_ne (by intro e; subst e; have := unbeaten (by omega); omega)]
    exact h.beats j one (by omega) beat hl c hc
  recessive j hj due c hc := by
    rw [List.getElem?_set_ne (by omega)] at hc
    exact h.recessive j (by omega) due c hc

theorem Carries.set_beside (h : Carries whole span) (one : 1 ≤ n) (beside : ∀ i, i < span.length → placeOf i ≠ n) :
    Carries (whole.set n b) span where
  start := by rw [List.getElem?_set_ne (by omega)]; exact h.start
  bit i hi := by rw [List.getElem?_set_ne (beside i hi).symm]; exact h.bit i hi

theorem Carries.set_bit (h : Carries whole span) {i : Nat} (hi : i < span.length) (place : placeOf i = n) :
    Carries (whole.set n b) (span.set i b) where
  start := by rw [List.getElem?_set_ne (by unfold placeOf at place; omega)]; exact h.start
  bit j hj := by
    rw [List.length_set] at hj
    by_cases here : i = j
    · subst here place
      have level := h.bit i hi
      rw [List.getElem?_eq_getElem hi] at level
      rw [List.getElem?_set_self (List.getElem?_eq_some_iff.1 level).1, List.getElem?_set_self hi]
    · rw [List.getElem?_set_ne (by unfold placeOf at *; omega), List.getElem?_set_ne here]
      exact h.bit j hj

/-- A level to be checked inverted leaves a line that is followed, but a fill bit just before a beat. -/
theorem Followed.set_fixed (h : Followed f span 0 whole) (hn : n < m) (fixed : f.fixedPlace n)
    (claim : n = 35 → ∀ g a, f.body ≠ .claim g a) : ∃ span', Followed f span' m (whole.set n b) := by
  have span_length := length_beaten span
  have ends := h.ends
  have long := f.length_levels_ge
  rcases fixed with ⟨one, beat, hl⟩ | fill | ⟨low, high⟩
  · exact ⟨span, h.set hn (by omega) (h.carries.set_beside one fun i hi => by unfold placeOf; omega) h.spanned rfl
      fun _ _ => rfl⟩
  · obtain ⟨beat, low, high⟩ := f.fillPlace_bounds fill
    have place := placeOf_bitsBefore beat
    have bits : bitsBefore n < span.length := by unfold bitsBefore; omega
    have inside : 24 ≤ bitsBefore n ∧ bitsBefore n ≤ 33 := by unfold bitsBefore; omega
    refine ⟨span.set (bitsBefore n) b, h.set hn (fun next => ?_) (h.carries.set_bit bits place)
      (h.spanned.set inside.1 inside.2 b) (by simp) fun i hi => ?_⟩
    · have at35 : n = 35 := by omega
      have none_other := claim at35
      unfold Frame.fillPlace at fill
      split at fill
      case h_2 g a body => exact absurd body (none_other g a)
      case h_4 | h_5 => exact fill.elim
      all_goals omega
    · rw [Bool.eq_iff_iff, atFillBit_take (by simpa using hi), atFillBit_take hi, fieldAt_set (by omega)]
  · exact ⟨span, h.set hn (by omega) (h.carries.set_beside (by omega) fun i hi => by unfold placeOf; omega) h.spanned rfl
      fun _ _ => rfl⟩

theorem Followed.later (h : Followed f span 0 whole) (m : Nat) : Followed f span m whole :=
  { h with beats := fun n one _ => h.beats n one n.zero_le, recessive := fun n _ => h.recessive n n.zero_le }

/-- Every irregular line of an allowed frame is followed from the place behind the irregularity. -/
theorem followed_of_irregularLine (h : f.allowed) {w : Window} (irregular : f.irregularLine w m whole) :
    ∃ span, Followed f span m whole := by
  have line := followed_spanWith h (crc f.covered).toNat w
  rw [← f.span_eq, ← f.line_eq, Frame.line] at line
  rcases irregular with rfl | ⟨c, -, -, -, rfl⟩ | ⟨n, b, hn, fixed, claim, -, rfl⟩
  · exact ⟨_, line.later m⟩
  · rw [wrongCheck_eq, List.append_assoc]
    exact ⟨_, (followed_spanWith h c w).later m⟩
  · exact line.set_fixed hn fixed claim

end

end Sys2Proof.Machine
end

section
/-! SUPPORT. What ends the silent following of a frame, and the recovery (R35, R37). -/

namespace Sys2Proof.Machine

/-! ### The end of silent following (R37) -/

theorem one_le_of_lengthKnown {whole : List Level} {m : Nat} (known : lengthKnown (whole.take m) = true) : 1 ≤ m := by
  rcases m with _ | m
  · cases known
  · omega

theorem take_append_drop_take (whole : List Level) {m n : Nat} (hn : m ≤ n) :
    whole.take m ++ (whole.take n).drop m = whole.take n := by
  have split := List.take_append_drop m (whole.take n)
  rwa [List.take_take, Nat.min_eq_left hn] at split

section
variable {f : Frame} {span : List Bool} {m : Nat} {whole : List Level}

theorem Followed.silentEnd_eq (h : Followed f span m whole) (one : 1 ≤ m) :
    silentEnd (whole.take m) (whole.drop m) = true := by
  have length := h.length
  have total := h.over (n := whole.length) (by omega) le_rfl
  have short := h.over (n := whole.length - 1) (by omega) (by omega)
  have same := h.dominant one (Nat.le_add_right m whole.length)
  rw [List.take_length] at total
  rw [List.take_of_length_le (by omega)] at same
  rw [decide_eq_false (by omega)] at short
  rw [silentEnd, List.take_append_drop, List.dropLast_eq_take, total, short, same]
  simp

theorem Followed.silentSoFar_eq (h : Followed f span m whole) (one : 1 ≤ m) {n : Nat} (hn : m ≤ n) (hl : n < whole.length) :
    silentEnd (whole.take m) ((whole.take n).drop m) = false ∧ silentSoFar (whole.take m) ((whole.take n).drop m) = true := by
  rw [silentEnd, silentSoFar, take_append_drop_take whole hn, h.over (one.trans hn) hl.le, h.dominant one hn,
    decide_eq_false hl.ne]
  simp

/-- A further dominant level where recessive was due is the first that breaks off the following. -/
theorem Followed.breakAfter_eq (h : Followed f span m whole) (one : 1 ≤ m) {n : Nat} (hn : m ≤ n) (fixed : f.fixedPlace n)
    (hb : whole[n]? = some true) (rest : List Level) :
    breakAfter (whole.take m) ((whole.take n).drop m ++ [false] ++ rest)
      ((whole.take n).drop m ++ [false] ++ rest).length = some (n - m) := by
  have hl : n < whole.length := (List.getElem?_eq_some_iff.1 hb).1
  have count : ((whole.take n).drop m).length = n - m := by simp; omega
  rw [← count]
  refine Machine.breakAfter_eq (List.ne_nil_of_length_pos (by simp; omega)) rest (fun j hj => ?_) ?_
  · have upto : whole.take m ++ ((whole.take n).drop m).take j = whole.take (m + j) := by
      rw [List.take_drop, List.take_take, Nat.min_eq_left (by omega), take_append_drop_take whole (Nat.le_add_right m j)]
    rw [upto]
    exact h.dominant one (Nat.le_add_right m j)
  · rw [take_append_drop_take whole hn]
    exact (h.strikes (one.trans hn) hn hb).2 fixed rfl

end

/-- A dominant fill bit before a CLAIM's fourth beat makes that beat wrong: a dominant one breaks off the following. -/
theorem breakAfter_claim {f : Frame} (h : f.allowed) {g : Byte} {a : Bool} (hb : f.body = .claim g a) (rest : List Level) :
    breakAfter (f.levels.take 35 ++ [false]) (false :: rest) (false :: rest).length = some 0 := by
  have whole := f.wholeSpan h (crc f.covered).toNat
  rw [← f.span_eq] at whole
  have len : f.span.length = 50 := by rw [f.span_eq, f.length_spanWith, f.body.length_bits, hb]; rfl
  have long : f.levels.length = 57 := by rw [f.levels_eq, length_beaten, len]
  have upto : (f.span.take (bitsBefore 35)).length = 31 := by rw [List.length_take, len]; rfl
  have reads := f.carries.reads whole.shorter (n := 35) (by omega) (by omega) (by rw [len]; decide)
  have bit := reads.step_bit (b := false) (by rw [upto]; exact whole.shorter 31 (by omega))
  rw [List.length_append, upto] at bit
  have last := (Rx.step_last_run (r := rxScan (f.levels.take 35)) (b := false) (by rw [reads.fin]; decide)).1
  have strikes := bit.strikes_beat (b := false)
  rw [last, ← rxScan_concat (List.ne_nil_of_length_pos (by simp; omega))] at strikes
  exact breakAfter_eq (mid := []) (by simp) rest (fun j hj => by simp) (by rw [List.append_nil]; exact strikes)

/-- The recovery goes on, or begins behind a mark. -/
theorem recoveryStart_of_mark {s : State} {mark : List Level} {row : Nat} (rest : List Level)
    (start : (s.liu.phase = .recovering ∧ s.liu.markBits = 0 ∧ mark = [] ∧ row = s.liu.recovery ∧ row < 7) ∨
      (s.liu.markBits ≠ 0 ∧ mark.length = s.liu.markBits ∧ row = 0)) :
    ∃ k, recoveryStart s (mark ++ rest) = some (k, row) ∧ (mark ++ rest).drop k = rest := by
  rcases start with ⟨phase, unmarked, rfl, rfl, -⟩ | ⟨marked, len, rfl⟩
  · exact ⟨0, by simp [recoveryStart, unmarked, phase], rfl⟩
  · exact ⟨_, if_pos marked, List.drop_left' len⟩

/-- Settles O51: the recovery counts from the mark's end or from the level that breaks off the following; a line with at
most one thing amiss, and that behind the station, shows no such level. -/
theorem recoveryAndSilentEnd : Obligations.RecoveryAndSilentEnd := by
  intro s levels quiet hquiet
  replace hquiet : quiet = quietAfter s levels := hquiet
  subst hquiet
  refine ⟨?_, fun marked hl => ?_, ?_, ?_⟩
  · rintro mark rest row rfl start
    have row_lt : row < 7 := by omega
    obtain ⟨k, begins, behind⟩ := recoveryStart_of_mark rest start
    refine ⟨fun before hrest first => ?_, fun never => ?_⟩
    · refine execLineRecovered_seven row_lt (fun both => ?_) begins (by rw [behind]; exact hrest) first
      rcases start with ⟨-, unmarked, -⟩ | ⟨-, len, rfl⟩
      · exact both.1 unmarked
      · have total := congrArg List.length hrest
        simp at total both
        omega
    · by_cases marks : s.liu.markBits ≠ 0 ∧ (mark ++ rest).length ≤ s.liu.markBits
      · obtain ⟨marked, hl⟩ := marks
        obtain ⟨len, rfl⟩ : mark.length = s.liu.markBits ∧ row = 0 := by tauto
        obtain rfl : rest = [] := List.eq_nil_of_length_eq_zero (by rw [List.length_append] at hl; omega)
        have ended : s.liu.markBits - (mark ++ []).length = 0 := by rw [List.append_nil, len, Nat.sub_self]
        rw [execLineRecovered_mark marked hl, ended]
        rfl
      · rw [execLineRecovered_short row_lt marks begins (by rw [behind]; exact never), behind]
  · have phase : markPhase (s.liu.markBits - levels.length) = if s.liu.markBits = levels.length then .recovering
        else if s.liu.markBits - levels.length ≤ 8 then .aborting else .window := by
      rcases markPhase_cases (s.liu.markBits - levels.length) with ⟨far, named⟩ | ⟨low, high, named⟩ | ⟨past, named⟩
      · rw [named, if_neg (by omega), if_neg (by omega)]
      · rw [named, if_neg (by omega), if_pos high]
      · rw [named, if_pos (by omega)]
    rw [execLineRecovered_mark marked hl, phase]
  · rintro f g a before h hb phase fault unmarked sampled rfl first
    have broken := breakAfter_claim h hb (before ++ List.replicate 7 true)
    rw [← sampled] at broken
    exact execLineRecovered_seven (before := before) (by omega) (fun both => both.1 unmarked)
      (recoveryStart_followed phase fault unmarked broken) rfl first
  · intro f w m whole h irregular phase fault unmarked sampled known
    have one := one_le_of_lengthKnown known
    obtain ⟨span, followed⟩ := followed_of_irregularLine h irregular
    refine ⟨?_, ?_, ?_⟩
    · rintro rfl
      rw [exec, execSilentFrameEnd, if_pos ⟨phase, fault, unmarked⟩, sampled, if_pos (followed.silentEnd_eq one),
        betweenFrames_countJoinQuiet]
      rfl
    · rintro n hn hl rfl
      obtain ⟨unended, so_far⟩ := followed.silentSoFar_eq one hn hl
      rw [exec, execSilentFrameEnd, if_pos ⟨phase, fault, unmarked⟩, sampled, unended, if_neg Bool.false_ne_true,
        if_pos so_far, take_append_drop_take whole hn, followed.carries.phaseAt_take followed.spanned hl.le, followed.ends,
        sampleOn_eq, sampled, take_append_drop_take whole hn]
      rfl
    · rintro n rest hn fixed hb rfl
      have broken := followed.breakAfter_eq one hn fixed hb rest
      rw [← sampled] at broken
      have start := recoveryStart_followed phase fault unmarked broken
      have hl := (List.getElem?_eq_some_iff.1 hb).1
      have behind : ((whole.take n).drop m ++ [false] ++ rest).drop (n - m + 1) = rest :=
        List.drop_left' (by simp; omega)
      refine ⟨fun before hrest first => ?_, fun never => ?_⟩
      · exact execLineRecovered_seven (by omega) (fun both => both.1 unmarked) start (by rw [behind]; exact hrest) first
      · rw [execLineRecovered_short (by omega) (fun both => both.1 unmarked) start (by rw [behind]; exact never), behind]
        simp only [unmarked]

end Sys2Proof.Machine
end

section
/-! SUPPORT. The holds of a mirror (R60, R61), and the running out of a freshness and of a claim timer with the auto-pull
each may ask for (R58, R98, R112). -/

namespace Sys2Proof.Machine

/-! ### HOLD and RELEASE (R60, R61) -/

section
variable {s : State} {i : EntryIx} {rest : List Byte}

/-- Where R60 and R61 take no command: outside the mirror roles, and in HALTED. -/
theorem not_mirror_or_halted (h : ((s.rt i).role ≠ .subscriber ∧ (s.rt i).role ≠ .claiming) ∨ s.lifecycle = .halted) :
    ¬ ((s.rt i).role.isMirror = true ∧ s.lifecycle ≠ .halted) := by
  rw [isMirror_iff]
  tauto

theorem exec_hold_of_mirror (used : (s.cfg i).role ≠ .unused) (mirror : (s.rt i).role.isMirror = true)
    (running : s.lifecycle ≠ .halted) :
    exec (.hold (entryByte i :: rest)) s = .next (withReply s (entryByte i :: rest)
      ((holdLimit s).2.modRt i fun r => { r with held := true, holdTimer := startTimer s.time (holdLimit s).1 })
      (statusOnly .ok)) := by
  rw [exec, execHold, onEntry_used s i rest _ used, if_pos ⟨mirror, running⟩]
  rfl

theorem exec_hold_refused (used : (s.cfg i).role ≠ .unused)
    (refused : ¬ ((s.rt i).role.isMirror = true ∧ s.lifecycle ≠ .halted)) :
    exec (.hold (entryByte i :: rest)) s = .next (refuse s (entryByte i :: rest) .badState) := by
  rw [exec, execHold, onEntry_used s i rest _ used, if_neg refused]
  rfl

theorem exec_release_of_mirror (used : (s.cfg i).role ≠ .unused) (mirror : (s.rt i).role.isMirror = true)
    (running : s.lifecycle ≠ .halted) :
    exec (.release (entryByte i :: rest)) s = .next (withReply s (entryByte i :: rest)
      (s.modRt i fun r => if r.held then { r with held := false, holdTimer := none } else r) (statusOnly .ok)) := by
  rw [exec, execRelease, onEntry_used s i rest _ used, if_pos ⟨mirror, running⟩]
  rfl

theorem exec_release_refused (used : (s.cfg i).role ≠ .unused)
    (refused : ¬ ((s.rt i).role.isMirror = true ∧ s.lifecycle ≠ .halted)) :
    exec (.release (entryByte i :: rest)) s = .next (refuse s (entryByte i :: rest) .badState) := by
  rw [exec, execRelease, onEntry_used s i rest _ used, if_neg refused]
  rfl

end

theorem holdLimit_of_params {s : State} {p : StationParams} (h : s.params = some p) : holdLimit s = (p.hold, s) := by
  rw [holdLimit, h]

theorem holdLimit_of_unset {s : State} (h : s.params = none) :
    holdLimit s = ((Config.unsetHoldLimit s.draws).val + 1, { s with draws := s.draws + 1 }) := by
  rw [holdLimit, h]

/-- Settles O11: the limit is the parameter or, where none is set, one drawn from the bounded free values. -/
theorem holdFreezesAMirror : Obligations.HoldFreezesAMirror := by
  intro s i rest used
  refine ⟨fun role running => ?_, fun outside => exec_hold_refused used (not_mirror_or_halted outside)⟩
  have taken := exec_hold_of_mirror (rest := rest) used ((isMirror_iff _).2 role) running
  refine ⟨fun p hp => ?_, fun unset => ?_⟩
  · rw [taken, holdLimit_of_params hp]
    rfl
  · have bound := (Config.unsetHoldLimit s.draws).isLt
    refine ⟨(Config.unsetHoldLimit s.draws).val + 1, by omega, by omega, ?_⟩
    rw [taken, holdLimit_of_unset unset]
    rfl

theorem applyVerdict_defer {s : State} {v : VerdictRecord} (h : v.verdict = .defer) : applyVerdict s v = s := by
  unfold applyVerdict
  split
  · rfl
  · simp only [h]

/-- Settles O12: the change RELEASE makes of an entry that is not held is none. -/
theorem releaseEndsTheHold : Obligations.ReleaseEndsTheHold := by
  refine ⟨fun s i rest used => ⟨fun role running => ?_, fun outside =>
    exec_release_refused used (not_mirror_or_halted outside)⟩, fun t v deferred => applyVerdict_defer deferred⟩
  have taken := exec_release_of_mirror (rest := rest) used ((isMirror_iff _).2 role) running
  refine ⟨fun held => ?_, fun unheld => ?_⟩
  · rw [taken, State.modRt_eq, if_pos held]
    rfl
  · rw [taken, State.modRt_of_eq s i _ (by simp [unheld])]
    rfl

/-! ### An auto-pull request (R98) -/

theorem takeAutoPull_idle {s : State} {i : EntryIx}
    (h : (s.rt i).role ≠ .subscriber ∨ ∃ p ∈ s.pulls, p.entry = i) : takeAutoPull s i = s := by
  rcases h with other | recorded
  · rw [takeAutoPull, if_neg other]
  · rw [takeAutoPull, if_pos ((findPull_isSome s i).2 recorded), ite_self]

/-- A request that finds no record takes a free one, or the pull-wanted mark. -/
theorem takeAutoPull_unrecorded {s : State} {i : EntryIx} (role : (s.rt i).role = .subscriber)
    (unrecorded : ∀ p ∈ s.pulls, p.entry ≠ i) : takeAutoPull s i =
      if s.pulls.length < 8 then addPull s i else s.modRt i fun r => { r with pullWanted := true } := by
  have missing : ¬ (findPull s i).isSome = true := by
    rw [findPull_isSome]
    exact fun ⟨p, mem, entry⟩ => unrecorded p mem entry
  rw [takeAutoPull, if_pos role, if_neg missing]

/-! ### Timers that run out (R58, R112) -/

/-- Settles O26: what is posted leaves the entry's configuration as it is, so the auto-pull asked for is that of the entry
before (R98). -/
theorem freshnessAndClaimTimersRunOut : Obligations.FreshnessAndClaimTimersRunOut := by
  refine ⟨fun s i r timer _ passed u hu => ?_, fun s i r timer passed u hu => ?_, fun u i => ⟨takeAutoPull_idle, ?_⟩⟩
  · have due : timerDue s.time (s.rt i).freshTimer = true := timer ▸ (timerDue_some s.time r).2 passed
    have cfg : u.cfg i = s.cfg i := by
      rw [hu, post_cfg]
      exact State.modRt_cfg s i i fun x => { x with mirror := some .stale, freshTimer := none }
    have posted : exec (.freshnessTimerExpiry i) s = .next (requestAutoPull u i) := by
      rw [exec, execFreshnessTimerExpiry, if_pos due, hu]
      rfl
    rw [posted, requestAutoPull, cfg]
  · have due : timerDue s.time (s.rt i).claimTimer = true := timer ▸ (timerDue_some s.time r).2 passed
    rw [exec, execClaimTimerExpiry, if_pos due, endClaim_eq s i .claimTimeout hu]
    rfl
  · intro role unrecorded
    have taken := takeAutoPull_unrecorded role unrecorded
    refine ⟨fun free => ?_, fun full => ?_⟩
    · rw [taken, if_pos free]
      rfl
    · rw [taken, if_neg (by omega)]
      rfl

end Sys2Proof.Machine
end

section
/-! SUPPORT. The judgement on a frame, row by row of the tables of chapters 3, 6 and 7 (R43 to R52, R106, R117, R122,
R124). -/

namespace Sys2Proof.Machine

/-! ### The entry a frame concerns (R43 to R45) -/

/-- The parts of a judgement, in the order in which `judged` gives them. -/
def Judgement.parts (j : Judgement) : Verdict × SlotSymbol × ReasonSet × Option Station :=
  (j.verdict, j.answer, j.reasons, j.effective)

theorem judged_eq (s : State) (f : Frame) : judged s f = (judge s f).parts := rfl

section
variable {s : State} {f : Frame}

theorem judge_announce {t : AnnounceType} (h : f.body = .announce t) :
    judge s f = ⟨.announce, .taken, 0, none⟩ ∧ entryFor s f = none := by
  simp [judge, entryFor, h]

/-- A frame of any other kind concerns the entry that holds its key. -/
theorem entryFor_eq (keyed : ∀ t, f.body ≠ .announce t) : entryFor s f = findEntry s f.key := by
  unfold entryFor
  split
  · next t h => exact absurd h (keyed t)
  all_goals rfl

theorem judge_of_unknown (keyed : ∀ t, f.body ≠ .announce t) (unknown : findEntry s f.key = none) :
    judge s f = ignoreWith 0 := by
  unfold judge
  split
  · next t h => exact absurd h (keyed t)
  all_goals rw [unknown]

theorem judge_of_heldBy {i : EntryIx} (keyed : ∀ t, f.body ≠ .announce t) (holds : heldBy s f.key i) :
    judge s f = judgeEntry s.own (s.cfg i) (s.rt i) f := by
  unfold judge
  split
  · next t h => exact absurd h (keyed t)
  all_goals rw [findEntry_of_heldBy holds]

theorem findEntry_eq_none {key : Key} (h : ∀ j, (s.cfg j).role ≠ .unused → (s.cfg j).key ≠ key) :
    findEntry s key = none := by
  rw [findEntry, lowestEntry_eq_none]
  intro j
  simpa using h j

end

theorem publication.keyed {f : Frame} {eff : Station} {g v : Byte} {bytes : List Byte}
    (h : publication f eff g v bytes) (t : AnnounceType) : f.body ≠ .announce t := by
  rcases h with ⟨body, -⟩ | body <;> simp [body]

/-! ### The rule for kind and role (R43, R46, R47) -/

section
variable {own : Station} {c : ItemConfig} {r : Runtime} {f : Frame} {eff : Station} {g v : Byte} {bytes : List Byte}

theorem judgeHold_of_unheld (h : r.held = false) (j : Judgement) : judgeHold r j = j := by
  simp [judgeHold, h]

theorem judgeHold_of_not_taken {j : Judgement} (h : j.answer ≠ .taken) : judgeHold r j = j := by
  simp [judgeHold, h]

theorem judgeHold_of_taken {j : Judgement} (held : r.held = true) (h : j.answer = .taken) :
    judgeHold r j = deferred := by simp [judgeHold, held, h]

theorem judgeEntry_wrongLength (h : publication f eff g v bytes) (wrong : bytes.length ≠ c.length) :
    judgeEntry own c r f = ignoreWith Reason.shape.alone := by
  rcases h with ⟨body, -⟩ | body
  · simp [judgeEntry, body, wrong]
  · simp [judgeEntry, body, wrong]

/-- A PUBLISH, and a YIELD to another station, is judged as a publication. -/
theorem judgeEntry_publication (h : publication f eff g v bytes) (other : f.body = .yield eff g v bytes → eff ≠ own)
    (fits : bytes.length = c.length) :
    judgeEntry own c r f = judgeHold r (judgePublication own c r f.source eff g v) := by
  rcases h with ⟨body, rfl⟩ | body
  · simp [judgeEntry, body, fits]
  · simp [judgeEntry, body, fits, other body]

theorem judgeEntry_yieldToSelf (body : f.body = .yield own g v bytes) (fits : bytes.length = c.length) :
    judgeEntry own c r f = judgeHold r (judgeYieldToSelf c r) := by
  simp [judgeEntry, body, fits]

/-- The hold is judged last, on the judgement the entry would get without it (R47); the length check alone is made before
it, and answers SEEN. -/
theorem judgeEntry_eq_judgeHold (keyed : ∀ t, f.body ≠ .announce t) :
    judgeEntry own c r f = judgeHold r (judgeEntry own c { r with held := false } f) := by
  have shape : judgeHold r (ignoreWith Reason.shape.alone) = ignoreWith Reason.shape.alone :=
    judgeHold_of_not_taken (by simp [ignoreWith])
  have free : ∀ j, judgeHold { r with held := false } j = j := judgeHold_of_unheld rfl
  unfold judgeEntry
  split
  · split
    · exact shape.symm
    · rw [free]; rfl
  · split
    · exact shape.symm
    · split
      · rw [free]; rfl
      · rw [free]; rfl
  · rw [free]; rfl
  · rw [free]; rfl
  · next t body => exact absurd body (keyed t)

/-- An entry is held in a mirror role alone (R62). -/
theorem holdLaw.unheld (h : holdLaw r) (role : r.role.isMirror = false) : r.held = false := by
  obtain ⟨mirror, -⟩ := h
  exact Bool.eq_false_iff.2 fun held => Bool.false_ne_true (role ▸ mirror held)

end

/-! ### A publication at a mirror (R48 to R52) -/

theorem not_serialNewer_self (a : Byte) : ¬ serialNewer a a := by
  have := a.isLt
  unfold serialNewer
  omega

theorem newer_of {a b : Byte} (h : serialNewer a b) : newer a b = true := (newer_iff a b).2 h

theorem not_newer_of {a b : Byte} (h : ¬ serialNewer a b) : ¬ newer a b = true := fun n => h ((newer_iff a b).1 n)

section
variable {r : Runtime} {o : Origin} {sender eff recorded : Station} {g v held : Byte}

theorem judgeVersion_newer (h : serialNewer held v) : judgeVersion held v eff = acceptFrom eff Reason.updated.alone := by
  rw [judgeVersion, if_pos (newer_of h)]

theorem judgeVersion_equal : judgeVersion v v eff = ⟨.refresh, .taken, 0, some eff⟩ := by
  rw [judgeVersion, if_neg (not_newer_of (not_serialNewer_self v)), if_pos rfl]

theorem judgeVersion_older (differs : v ≠ held) (h : ¬ serialNewer held v) : judgeVersion held v eff = ignoreWith 0 := by
  rw [judgeVersion, if_neg (not_newer_of h), if_neg differs]

/-- A mirror with no value in force accepts whatever comes (R48). -/
theorem judgeMirror_unvalued (h : r.mirror = some .empty ∨ r.mirror = some .orphaned) :
    judgeMirror r sender eff g v = acceptFrom eff Reason.updated.alone := by
  rcases h with h | h <;> simp [judgeMirror, h]

/-- A mirror with a value in force goes by the generation, and at equal generations by the sender (R49 to R52). -/
theorem judgeMirror_valued (h : r.mirror = some .fresh ∨ r.mirror = some .stale) (source : r.source = some o) :
    judgeMirror r sender eff g v =
      if newer r.generation g then acceptFrom eff Reason.updated.alone
      else if g = r.generation then
        if sender = o.station ∨ eff = o.station then judgeVersion r.version v eff
        else judgeRival o.station sender eff
      else ignoreWith 0 := by
  rcases h with h | h <;> simp [judgeMirror, h, source]

theorem judgeMirror_equal (h : r.mirror = some .fresh ∨ r.mirror = some .stale) (source : r.source = some o)
    (same : g = r.generation) : judgeMirror r sender eff g v =
      if sender = o.station ∨ eff = o.station then judgeVersion r.version v eff
      else judgeRival o.station sender eff := by
  rw [judgeMirror_valued h source, if_neg (not_newer_of (same ▸ not_serialNewer_self g)), if_pos same]

end

/-- Settles O36: the frame reaches the mirror's rule, and each row of the table is one branch of it. -/
theorem mirrorVerdictsFollowTheTable : Obligations.MirrorVerdictsFollowTheTable := by
  intro s p i f eff g v bytes hp holds role unheld frame other fits
  have entry : (verdictOn s f).entry = some i := (entryFor_eq frame.keyed).trans (findEntry_of_heldBy holds)
  have mirrored : judged s f = (judgeMirror (s.rt i) f.source eff g v).parts := by
    rw [← State.own_of_params hp] at other
    rw [judged_eq, judge_of_heldBy frame.keyed holds, judgeEntry_publication frame other fits,
      judgeHold_of_unheld unheld, judgePublication, if_pos ((isMirror_iff _).2 role)]
  refine ⟨entry, fun h => ?_, fun o valued source => ⟨fun newer => ?_, fun differs older => ?_,
    fun same matching => ⟨fun newer => ?_, fun equal => ?_, fun differs older => ?_⟩,
    fun same sender moved => ⟨fun lower => ?_, fun higher => ?_⟩⟩⟩
  · rw [mirrored, judgeMirror_unvalued h]
    rfl
  · rw [mirrored, judgeMirror_valued valued source, if_pos (newer_of newer)]
    rfl
  · rw [mirrored, judgeMirror_valued valued source, if_neg (not_newer_of older), if_neg differs]
    rfl
  · rw [mirrored, judgeMirror_equal valued source same, if_pos matching, judgeVersion_newer newer]
    rfl
  · rw [mirrored, judgeMirror_equal valued source same, if_pos matching, equal, judgeVersion_equal]
    rfl
  · rw [mirrored, judgeMirror_equal valued source same, if_pos matching, judgeVersion_older differs older]
    rfl
  · rw [mirrored, judgeMirror_equal valued source same, if_neg (not_or.2 ⟨sender, moved⟩), judgeRival, if_pos lower]
    rfl
  · rw [mirrored, judgeMirror_equal valued source same, if_neg (not_or.2 ⟨sender, moved⟩), judgeRival,
      if_neg (lt_asymm higher)]
    rfl

/-! ### PULL, CLAIM, YIELD to this station, and rivals (R106, R117, R122, R124, R127) -/

section
variable {own : Station} {c : ItemConfig} {r : Runtime} {f : Frame} {sender eff : Station} {g : Byte}

/-- A hold falls in the mirror roles, which ignore a PULL: it changes no answer to one. -/
theorem judgeEntry_pull (law : holdLaw r) (body : f.body = .pull) : judgeEntry own c r f = judgePull r := by
  have hold : judgeHold r (judgePull r) = judgePull r := by
    by_cases mirror : r.role.isMirror = true
    · refine judgeHold_of_not_taken ?_
      rcases (isMirror_iff _).1 mirror with role | role <;> simp [judgePull, role, ignoreWith]
    · exact judgeHold_of_unheld (law.unheld (by simpa using mirror)) _
  rw [judgeEntry, body]
  exact hold

/-- A hold falls in the mirror roles, which ignore a CLAIM: it changes no answer to one. -/
theorem judgeEntry_claim {seen : Byte} {adopting : Bool} (law : holdLaw r) (body : f.body = .claim seen adopting) :
    judgeEntry own c r f = judgeClaim c r := by
  have hold : judgeHold r (judgeClaim c r) = judgeClaim c r := by
    by_cases mirror : r.role.isMirror = true
    · refine judgeHold_of_not_taken ?_
      rcases (isMirror_iff _).1 mirror with role | role <;> simp [judgeClaim, role, ignoreWith]
    · exact judgeHold_of_unheld (law.unheld (by simpa using mirror)) _
  rw [judgeEntry, body]
  exact hold

theorem judgeConflict_wins (h : serialNewer r.generation g ∨ (g = r.generation ∧ sender < own)) :
    judgeConflict own c r sender eff g =
      if c.movable then ⟨.depose, .taken, Reason.ownerLost.alone ||| Reason.conflict.alone, some eff⟩
      else ⟨.outranked, .seen, Reason.conflict.alone, none⟩ := by
  rw [judgeConflict, if_pos (h.imp_left newer_of)]

theorem judgeConflict_loses (older : ¬ serialNewer r.generation g) (higher : g = r.generation → own < sender) :
    judgeConflict own c r sender eff g = ⟨.reassert, .seen, Reason.conflict.alone, none⟩ := by
  rw [judgeConflict, if_neg]
  rintro (newer | ⟨same, lower⟩)
  · exact not_newer_of older newer
  · exact lt_asymm lower (higher same)

end

theorem heldBy.modRt {s : State} {key : Key} {i : EntryIx} (h : heldBy s key i) (f : Runtime → Runtime) :
    heldBy (s.modRt i f) key i := by simpa [heldBy] using h

theorem not_mirror_of_owner {r : Role} (h : r = .publisher ∨ r = .yielding) : r.isMirror = false := by
  rcases h with rfl | rfl <;> rfl

/-- Settles O37: a key nobody holds and an ANNOUNCE first, then one entry's rule for each kind and role. -/
theorem otherVerdictsFollowTheTables : Obligations.OtherVerdictsFollowTheTables := by
  refine ⟨fun s f unknown keyed => ?_, fun s f t body => ?_, fun s p i f hp holds => ?_⟩
  · have missing := findEntry_eq_none unknown
    exact ⟨by rw [judged_eq, judge_of_unknown keyed missing]; rfl, (entryFor_eq keyed).trans missing⟩
  · obtain ⟨judgement, entry⟩ := judge_announce (s := s) body
    exact ⟨by rw [judged_eq, judgement]; rfl, entry⟩
  have own := State.own_of_params hp
  have byEntry : (∀ t, f.body ≠ .announce t) → judged s f = (judgeEntry p.station (s.cfg i) (s.rt i) f).parts :=
    fun keyed => by rw [judged_eq, judge_of_heldBy keyed holds, own]
  refine ⟨fun keyed => (entryFor_eq keyed).trans (findEntry_of_heldBy holds), fun eff g v bytes frame wrong => ?_,
    fun held keyed u hu => ?_, fun law body => ?_, fun law seen adopting body => ?_, fun g v bytes body fits => ?_,
    fun law role eff g v bytes frame other fits differs => ?_⟩
  · rw [byEntry frame.keyed, judgeEntry_wrongLength frame wrong]
    rfl
  · replace hu : u = s.modRt i fun r => { r with held := false } := hu
    have unheld : judged u f = (judgeEntry p.station (s.cfg i) { s.rt i with held := false } f).parts := by
      have sameOwn : u.own = p.station := State.own_of_params (by rw [hu, State.modRt_params, hp])
      rw [judged_eq, judge_of_heldBy keyed (hu ▸ holds.modRt _), sameOwn, hu, State.modRt_cfg, State.modRt_rt_self]
    rw [byEntry keyed, judgeEntry_eq_judgeHold keyed, unheld]
    refine ⟨fun taken => ?_, fun other => ?_⟩
    · rw [judgeHold_of_taken held taken]
      rfl
    · rw [judgeHold_of_not_taken other]
  · rw [byEntry (by simp [body]), judgeEntry_pull law body, judgePull]
    cases (s.rt i).role <;> rfl
  · rw [byEntry (by simp [body]), judgeEntry_claim law body, judgeClaim]
    cases (s.rt i).role with
    | publisher => exact apply_ite Judgement.parts ..
    | _ => rfl
  · rw [byEntry (by simp [body]), judgeEntry_yieldToSelf body fits, judgeYieldToSelf]
    refine ⟨fun owner => ?_, fun mirror => ?_⟩
    · rw [if_pos owner, judgeHold_of_not_taken (by simp)]
      rfl
    · have notOwner : ¬ ((s.rt i).role = .publisher ∨ (s.rt i).role = .yielding) := by
        rcases mirror with role | role <;> simp [role]
      rw [if_neg notOwner]
      by_cases movable : (s.cfg i).movable = true
      · cases held : (s.rt i).held with
        | true => simp [movable, judgeHold_of_taken held, deferred, Judgement.parts]
        | false => simp [movable, judgeHold_of_unheld held, Judgement.parts]
      · simp [movable, judgeHold_of_not_taken, ignoreWith, Judgement.parts]
  · have notMirror := not_mirror_of_owner role
    have contested : judged s f = (judgeConflict p.station (s.cfg i) (s.rt i) f.source eff g).parts := by
      rw [byEntry frame.keyed, judgeEntry_publication frame other fits, judgeHold_of_unheld (law.unheld notMirror),
        judgePublication, if_neg (by simp [notMirror])]
    refine ⟨fun wins => ?_, fun older higher => ?_⟩
    · rw [contested, judgeConflict_wins wins]
      exact apply_ite Judgement.parts ..
    · rw [contested, judgeConflict_loses older higher]
      rfl

end Sys2Proof.Machine
end

section
/-! SUPPORT. What IGNORE, ACCEPT and REFRESH do to an entry at completion (R53 to R57, R103, R111). -/

namespace Sys2Proof.Machine

/-! ### ACCEPT and REFRESH by the role and the mirror state then (R53, R54, R56) -/

section
variable {s : State} {v : VerdictRecord} {i : EntryIx} {eff : Station} {b : FrameBody} {rs : ReasonSet}

theorem applyVerdict_unkeyed (h : v.entry = none) : applyVerdict s v = s := by rw [applyVerdict, h]

theorem applyVerdict_ignore (entry : v.entry = some i) (h : v.verdict = .ignore) :
    applyVerdict s v = post s i v.reasons := by simp only [applyVerdict, entry, h]

theorem applyVerdict_accept (entry : v.entry = some i) (effective : v.effective = some eff) (h : v.verdict = .accept) :
    applyVerdict s v = applyAccept s i eff v.frame.body v.reasons := by
  simp only [applyVerdict, entry, effective, h, Option.getD_some]

theorem applyVerdict_refresh (entry : v.entry = some i) (effective : v.effective = some eff) (h : v.verdict = .refresh) :
    applyVerdict s v = applyRefresh s i eff v.frame.body := by
  simp only [applyVerdict, entry, effective, h, Option.getD_some]

theorem applyAccept_mirror (h : (s.rt i).role.isMirror = true) : applyAccept s i eff b rs =
    post (removePull (s.modRt i (acceptRuntime s.time (s.cfg i) eff b)) i) i rs := by
  rw [applyAccept, if_pos h]

theorem applyAccept_owner (h : (s.rt i).role.isMirror = false) : applyAccept s i eff b rs = s := by
  rw [applyAccept, h, if_neg Bool.false_ne_true]

theorem applyRefresh_owner (h : (s.rt i).role.isMirror = false) : applyRefresh s i eff b = s := by
  rw [applyRefresh, h, if_neg Bool.false_ne_true]

/-- An orphaned mirror takes a REFRESH as an acceptance (R54, R135). -/
theorem applyRefresh_orphaned (h : (s.rt i).role.isMirror = true) (orphaned : (s.rt i).mirror = some .orphaned) :
    applyRefresh s i eff b = applyAccept s i eff b Reason.updated.alone := by
  rw [applyRefresh, if_pos h, orphaned]

/-- A REFRESH is news to the host where the mirror was STALE or its source moves (R54). -/
theorem applyRefresh_news (h : (s.rt i).role.isMirror = true)
    (valued : (s.rt i).mirror = some .fresh ∨ (s.rt i).mirror = some .stale)
    (news : (s.rt i).mirror = some .stale ∨ (s.rt i).source.map (·.station) ≠ some eff) : applyRefresh s i eff b =
      post (removePull (s.modRt i (refreshRuntime s.time (s.cfg i) eff)) i) i Reason.updated.alone := by
  rw [applyRefresh, if_pos h]
  rcases valued with fresh | stale
  · have moved : (s.rt i).source.map (·.station) ≠ some eff := by simpa [fresh] using news
    simp only [fresh, moved, ne_eq, not_false_eq_true, decide_true, if_true]
  · simp only [stale]

theorem applyRefresh_silent (h : (s.rt i).role.isMirror = true) (fresh : (s.rt i).mirror = some .fresh)
    (same : (s.rt i).source.map (·.station) = some eff) :
    applyRefresh s i eff b = removePull (s.modRt i (refreshRuntime s.time (s.cfg i) eff)) i := by
  rw [applyRefresh, if_pos h, fresh]
  simp [same, post]

/-! ### The runtime part left (R53, R57, R111) -/

theorem renewedFreshness_eq (now : Time) (c : ItemConfig) (r : Runtime) : renewedFreshness now c r =
    if r.role = .subscriber ∧ c.freshness ≠ 0 then some ⟨now, c.freshness⟩ else none := by
  by_cases role : r.role = .subscriber
  · by_cases limit : c.freshness = 0
    · simp [renewedFreshness, freshnessOf, limit]
    · simp [renewedFreshness, freshnessOf, startTimer, role, limit]
  · simp [renewedFreshness, role]

/-- The fields of a mirror that both a refresh and an acceptance set. -/
theorem refreshRuntime_eq (now : Time) (c : ItemConfig) (source : Station) (r : Runtime) :
    refreshRuntime now c source r = { r with
      source := some ⟨source, now⟩, mirror := some .fresh
      freshTimer := if r.role = .subscriber ∧ c.freshness ≠ 0 then some ⟨now, c.freshness⟩ else none
      claim := r.claim.map fun p => ⟨.normal, p.frameMark⟩, pullWanted := false } := by
  rw [refreshRuntime, renewedFreshness_eq]
  rfl

/-- An acceptance is a refresh that stores the value and the counters as well. -/
theorem acceptRuntime_eq (now : Time) (c : ItemConfig) (source : Station) (b : FrameBody) (r : Runtime) :
    acceptRuntime now c source b r = { refreshRuntime now c source r with
      storage := storeValue r.storage b.content.2.2, generation := b.content.1, version := b.content.2.1 } := rfl

theorem publication.content {f : Frame} {g ver : Byte} {bytes : List Byte} (h : publication f eff g ver bytes) :
    f.body.content = (g, ver, bytes) := by
  rcases h with ⟨body, -⟩ | body <;> rw [body] <;> rfl

end

/-- Settles O39: ACCEPT and REFRESH differ in the value and the counters stored and in the posting. -/
theorem mirrorVerdictsAreApplied : Obligations.MirrorVerdictsAreApplied := by
  refine ⟨fun s v => ⟨?_, fun i entry ignored => ?_⟩, ?_⟩
  · rintro (unkeyed | deferred)
    · exact applyVerdict_unkeyed unkeyed
    · exact applyVerdict_defer deferred
  · have posted := applyVerdict_ignore (s := s) entry ignored
    exact ⟨posted, fun empty => by rw [posted, empty, post, if_pos rfl]⟩
  rintro s v i eff g ver bytes entry effective frame short renewed hr
  rw [← refreshRuntime_eq] at hr
  have accepted : acceptRuntime s.time (s.cfg i) eff v.frame.body (s.rt i) =
      { renewed with storage := storeValue (s.rt i).storage bytes, generation := g, version := ver } := by
    rw [acceptRuntime_eq, frame.content, hr]
  refine ⟨?_, fun role => ⟨storeValue (s.rt i).storage bytes, storeValue_toList _ _ short, ?_⟩⟩
  · rintro owner (accept | refresh)
    · rw [applyVerdict_accept entry effective accept, applyAccept_owner (not_mirror_of_owner owner)]
    · rw [applyVerdict_refresh entry effective refresh, applyRefresh_owner (not_mirror_of_owner owner)]
  have mirror := (isMirror_iff _).2 role
  refine ⟨fun accept => ?_, fun refresh orphaned => ?_, ?_⟩
  · rw [applyVerdict_accept entry effective accept, applyAccept_mirror mirror, State.modRt_eq, accepted]
  · rw [applyVerdict_refresh entry effective refresh, applyRefresh_orphaned mirror orphaned, applyAccept_mirror mirror,
      State.modRt_eq, accepted]
  · rintro refresh valued u rfl
    have refreshed := applyVerdict_refresh (s := s) entry effective refresh
    rw [hr, ← State.modRt_eq]
    exact ⟨fun news => by rw [refreshed, applyRefresh_news mirror valued news],
      fun fresh same => by rw [refreshed, applyRefresh_silent mirror fresh same]⟩

end Sys2Proof.Machine
end

section
/-! SUPPORT. WRITE, accepted and refused (R67, R68, R83), and the running out of the period, the inhibit and the hold
timer (R62, R69, R70). -/

namespace Sys2Proof.Machine

/-! ### WRITE on a used entry (R67, R68) -/

section
variable {s : State} {i : EntryIx} {rest : List Byte}

/-- A WRITE that names a used entry is judged by its bytes, then by role and lifecycle. -/
theorem exec_write_used (used : (s.cfg i).role ≠ .unused) : exec (.write (entryByte i :: rest)) s = .next
    (if rest.length < (s.cfg i).length then refuse s (entryByte i :: rest) .badLength
      else if (s.rt i).role = .publisher ∧ takesRequests s.lifecycle = true then
        withReply s (entryByte i :: rest) (s.modRt i (writeRuntime (s.cfg i) (rest.take (s.cfg i).length)))
          [0x00, (s.rt i).version + 1]
      else refuse s (entryByte i :: rest) .badState) := by
  rw [exec, execWrite, onEntry_used s i rest _ used, List.length_cons, Nat.add_comm 1]
  simp only [Nat.add_lt_add_iff_right]
  rfl

theorem exec_write_unused (unused : (s.cfg i).role = .unused) :
    exec (.write (entryByte i :: rest)) s = .next (withReply s (entryByte i :: rest) s [0x08]) := by
  rw [exec, execWrite, onEntry_unused s i rest _ unused]
  rfl

theorem exec_write_short (used : (s.cfg i).role ≠ .unused) (short : rest.length < (s.cfg i).length) :
    exec (.write (entryByte i :: rest)) s = .next (withReply s (entryByte i :: rest) s [0x07]) := by
  rw [exec_write_used used, if_pos short]
  rfl

theorem exec_write_badState (used : (s.cfg i).role ≠ .unused) (enough : (s.cfg i).length ≤ rest.length)
    (outside : ¬ ((s.rt i).role = .publisher ∧ takesRequests s.lifecycle = true)) :
    exec (.write (entryByte i :: rest)) s = .next (withReply s (entryByte i :: rest) s [0x03]) := by
  rw [exec_write_used used, if_neg (Nat.not_lt.2 enough), if_neg outside]
  rfl

theorem exec_write_accepted (used : (s.cfg i).role ≠ .unused) (enough : (s.cfg i).length ≤ rest.length)
    (role : (s.rt i).role = .publisher) (takes : takesRequests s.lifecycle = true) :
    exec (.write (entryByte i :: rest)) s = .next (withReply s (entryByte i :: rest)
      (s.modRt i (writeRuntime (s.cfg i) (rest.take (s.cfg i).length))) [0x00, (s.rt i).version + 1]) := by
  rw [exec_write_used used, if_neg (Nat.not_lt.2 enough), if_pos ⟨role, takes⟩]

end

/-- Of enough operand bytes WRITE reads the value alone: transactions with the same value leave the same state and reply,
the bytes shifted out apart (R68). -/
theorem exec_write_reads_value (s : State) (i : EntryIx) (value : List Byte) : ∃ (u : State) (reply : List Byte),
    ∀ bytes : List Byte, (s.cfg i).length ≤ bytes.length → bytes.take (s.cfg i).length = value →
      exec (.write (entryByte i :: bytes)) s = .next (withReply s (entryByte i :: bytes) u reply) := by
  by_cases used : (s.cfg i).role ≠ .unused
  · by_cases accepted : (s.rt i).role = .publisher ∧ takesRequests s.lifecycle = true
    · exact ⟨_, _, fun bytes enough same => same ▸ exec_write_accepted used enough accepted.1 accepted.2⟩
    · exact ⟨s, _, fun bytes enough _ => exec_write_badState used enough accepted⟩
  · exact ⟨s, _, fun bytes _ _ => exec_write_unused (not_not.1 used)⟩

theorem writeRuntime_eq (c : ItemConfig) (value : List Byte) (r : Runtime) : writeRuntime c value r = { r with
    storage := storeValue r.storage value
    version := r.version + 1
    pending := { r.pending with
      publish := if c.onWrite = true ∨ c.required ≠ 0 then some 0 else r.pending.publish }
    delivery := if c.required ≠ 0 then some ⟨.opened, r.version + 1, 0, 0, 0⟩ else r.delivery } := by
  unfold writeRuntime
  by_cases raises : c.onWrite = true ∨ c.required ≠ 0
  · simp only [if_pos raises]
  · simp only [if_neg raises]

/-- Settles O9: the storage is that of `storeValue`, which changes the first bytes alone. -/
theorem writeStoresAndAdvances : Obligations.WriteStoresAndAdvances := by
  intro s i value extra used role lifecycle short whole
  have read : (value ++ extra).take (s.cfg i).length = value := by rw [← whole, List.take_left]
  refine ⟨storeValue (s.rt i).storage value, ?_, ?_⟩
  · rw [storeValue_toList _ _ (whole ▸ short), whole]
  · rw [exec_write_accepted used (by simp [whole]) role ((takesRequests_iff _).2 lifecycle), read, State.modRt_eq,
      writeRuntime_eq]

/-- Where R68 answers BAD-STATE. -/
theorem write_not_taken {s : State} {i : EntryIx} (h : (s.rt i).role = .yielding ∨ (s.rt i).role = .subscriber ∨
    (s.rt i).role = .claiming ∨ s.lifecycle = .configuring ∨ s.lifecycle = .halted) :
    ¬ ((s.rt i).role = .publisher ∧ takesRequests s.lifecycle = true) := by
  rintro ⟨role, takes⟩
  rcases h with h | h | h | h | h
  · simp [role] at h
  · simp [role] at h
  · simp [role] at h
  · simp [h, takesRequests] at takes
  · simp [h, takesRequests] at takes

/-- Settles O10: bytes beyond the value change the bytes shifted out alone, for WRITE does not read them. -/
theorem writeRefusalsChangeNothing : Obligations.WriteRefusalsChangeNothing := by
  refine fun s => ⟨fun b rest above => ?_, fun i rest => ⟨exec_write_unused, exec_write_short,
    fun used enough refused => exec_write_badState used enough (write_not_taken refused), fun enough t taken => ?_⟩⟩
  · rw [exec, execWrite, onEntry_above s b rest _ above]
    rfl
  · obtain ⟨u, reply, same⟩ := exec_write_reads_value s i (rest.take (s.cfg i).length)
    rw [same _ (by simp [enough]) (by simp)] at taken
    cases taken
    exact same rest enough rfl

/-! ### Timers that run out (R62, R69, R70) -/

/-- The period timer that is due raises PUBLISH and starts again (R69). -/
theorem exec_periodTimerExpiry_due {s : State} {i : EntryIx} (due : timerDue s.time (s.rt i).periodTimer = true)
    (role : (s.rt i).role = .publisher) : exec (.periodTimerExpiry i) s = .next (s.modRt i fun r => { r with
      periodTimer := startTimer s.time (s.cfg i).period
      pending := { r.pending with publish := some (r.pending.publish.getD 0) } }) := by
  rw [exec, execPeriodTimerExpiry, if_pos due, raisePublish, State.modRt_modRt, State.modRt_eq, if_pos role]
  rfl

/-- Settles O25: each expiry asks whether its timer is due, which it is once its duration has passed (R13). -/
theorem periodInhibitAndHoldTimersRunOut : Obligations.PeriodInhibitAndHoldTimersRunOut := by
  intro s i r passed
  have due : ∀ {x : Timer}, x = some r → timerDue s.time x = true := fun h => h ▸ (timerDue_some s.time r).2 passed
  refine ⟨fun timer role => ?_, fun timer => ?_, fun timer => ?_⟩
  · rw [exec_periodTimerExpiry_due (due timer) role]
    cases count : (s.rt i).pending.publish <;> simp only [State.modRt_eq, count] <;> rfl
  · rw [exec, execInhibitTimerExpiry, if_pos (due timer)]
    rfl
  · rw [exec, execHoldTimerExpiry, if_pos (due timer)]
    rfl

end Sys2Proof.Machine
end

section
/-! SUPPORT. The Transmit Selector's choice (R71, R72) and the capture at the start bit (R64, R73, R99, R113). -/

namespace Sys2Proof.Machine

/-! ### The offer is the lowest of the list (R72) -/

theorem lowerOf_eq_argAux : lowerOf = List.argAux fun x b => x.1 < b.1 := by
  funext best x
  cases best <;> rfl

theorem offer_eq_argmin (s : State) : offer s = ((eligible s).argmin Prod.fst).map Prod.snd := by
  rw [offer, lowerOf_eq_argAux]
  rfl

/-- Each request of an entry is listed with its arbitration value (R72). -/
theorem eligibleOf_value {s : State} {i : EntryIx} {n : Nat} {q : Request} (h : (n, q) ∈ eligibleOf s i) :
    n = requestValue s q := by
  simp only [eligibleOf, List.mem_append, List.mem_ite_nil_right, List.mem_singleton, Prod.mk.injEq] at h
  obtain ((⟨-, rfl, rfl⟩ | ⟨-, rfl, rfl⟩) | ⟨-, rfl, rfl⟩) | ⟨-, rfl, rfl⟩ := h <;>
    simp only [arbitration, requestValue, Nat.add_zero]

/-- Every eligible request is listed with its arbitration value (R72). -/
theorem eligible_value {s : State} {n : Nat} {q : Request} (h : (n, q) ∈ eligible s) : n = requestValue s q := by
  rcases List.mem_append.1 h with announced | listed
  · cases ha : s.announce with
    | none => simp [ha] at announced
    | some a =>
      simp only [ha, List.mem_ite_nil_right, List.mem_singleton, Prod.mk.injEq] at announced
      obtain ⟨-, rfl, rfl⟩ := announced
      simp only [arbitration, FrameClass.code, requestValue]
      omega
  · obtain ⟨-, listed⟩ := List.mem_ite_nil_right.1 listed
    obtain ⟨i, -, hi⟩ := List.mem_flatMap.1 listed
    exact eligibleOf_value hi

theorem mem_eligible_value (s : State) (q : Request) : (requestValue s q, q) ∈ eligible s ↔ isEligible s q := by
  rw [← mem_eligible]
  exact ⟨fun h => ⟨_, h⟩, fun ⟨n, h⟩ => eligible_value h ▸ h⟩

/-- An offer is eligible, and no eligible request has a lower value (R72). -/
theorem offer_spec {s : State} {q : Request} (h : offer s = some q) :
    isEligible s q ∧ ∀ q', isEligible s q' → requestValue s q ≤ requestValue s q' := by
  rw [offer_eq_argmin] at h
  obtain ⟨⟨n, q₀⟩, least, rfl⟩ := Option.map_eq_some_iff.1 h
  have mem := List.argmin_mem least
  refine ⟨(mem_eligible s q₀).1 ⟨n, mem⟩, fun q' hq' => ?_⟩
  have le := List.le_of_mem_argmin ((mem_eligible_value s q').2 hq') least
  exact eligible_value mem ▸ le

/-! ### No two requests share a value (R1, R72) -/

/-- The entry a request names, with its kind value; an announce names none (R21, R64). -/
def Request.place : Request → Option (EntryIx × Nat)
  | .publish i => some (i, 2)
  | .pull i => some (i, 3)
  | .claim i => some (i, 1)
  | .yield i => some (i, 0)
  | .announce _ => none

theorem Request.place_announce {q : Request} : q.place = none ↔ ∃ t, q = .announce t := by
  cases q <;> simp [Request.place]

/-- Entry and kind tell an entry's requests apart. -/
theorem Request.eq_of_place {q q' : Request} {x : EntryIx × Nat} (h : q.place = some x) (h' : q'.place = some x) :
    q = q' := by
  cases q <;> cases q' <;> grind [Request.place]

theorem requestValue_of_place {s : State} {q : Request} {i : EntryIx} {k : Nat} (h : q.place = some (i, k)) :
    requestValue s q = arbitration (s.cfg i).cls (s.cfg i).key.toNat k ∧ k < 4 := by
  cases q <;> cases h <;> simp [requestValue, arbitration]

/-- A request is pending at a used entry alone (R8, R12). -/
theorem used_of_isPending {s : State} (laws : entriesLaw s) {q : Request} {i : EntryIx} {k : Nat}
    (h : q.place = some (i, k)) (pending : isPending s q) : (s.cfg i).role ≠ .unused := by
  obtain ⟨⟨unused, -⟩, -, ⟨publish, yield, claim, pull⟩, -⟩ := laws i
  rw [ne_eq, ← unused]
  cases q <;> cases h
  · simp [publish pending]
  · simp [pull pending]
  · simp [claim pending]
  · simp [yield pending]

/-- Class, key and kind are read off the value (R72). -/
theorem arbitration_inj {c c' : FrameClass} {k k' : Key} {n n' : Nat} (hn : n < 8) (hn' : n' < 8)
    (h : arbitration c k.toNat n = arbitration c' k'.toNat n') : k = k' ∧ n = n' := by
  have := k.isLt
  have := k'.isLt
  simp only [arbitration] at h
  exact ⟨BitVec.eq_of_toNat_eq (by omega), by omega⟩

theorem cls_of_configLaw {c : ItemConfig} (law : configLaw c) (used : c.role ≠ .unused) : c.cls ≠ .system := by
  obtain ⟨-, -, -, -, -, ranges, -⟩ := law
  exact (ranges used).2

/-- A station's announce comes before every request of an entry, whose class is not SYSTEM (R72). -/
theorem announce_before_entry {s : State} {q : Request} {i : EntryIx} {k : Nat} (t : AnnounceType)
    (h : q.place = some (i, k)) (cls : (s.cfg i).cls ≠ .system) :
    requestValue s (.announce t) < requestValue s q := by
  have class_pos : 1 ≤ (s.cfg i).cls.code := by
    cases c : (s.cfg i).cls with
    | system => exact absurd c cls
    | urgent | normal | bulk => simp [FrameClass.code]
  have number := s.own.isLt
  rw [(requestValue_of_place h).1]
  simp only [requestValue, arbitration]
  omega

/-- No two eligible requests share an arbitration value (R72). -/
theorem requestValue_inj {s : State} (keys : keyLaw s) (laws : entriesLaw s) (config : ∀ i, configLaw (s.cfg i))
    {q q' : Request} (h : isEligible s q) (h' : isEligible s q') (same : requestValue s q = requestValue s q') :
    q = q' := by
  have before : ∀ {x : Request} {p} (t : AnnounceType), isEligible s x → x.place = some p →
      requestValue s (.announce t) < requestValue s x := fun t hx hp =>
    announce_before_entry t hp (cls_of_configLaw (config _) (used_of_isPending laws hp hx.1))
  cases hp : q.place with
  | none =>
    obtain ⟨t, rfl⟩ := Request.place_announce.1 hp
    cases hp' : q'.place with
    | none =>
      obtain ⟨t', rfl⟩ := Request.place_announce.1 hp'
      exact congrArg Request.announce (Option.some.inj (h.1.symm.trans h'.1))
    | some y => exact absurd same (before t h' hp').ne
  | some x =>
    cases hp' : q'.place with
    | none =>
      obtain ⟨t, rfl⟩ := Request.place_announce.1 hp'
      exact absurd same (before t h hp).ne'
    | some y =>
      obtain ⟨value, small⟩ := requestValue_of_place (s := s) hp
      obtain ⟨value', small'⟩ := requestValue_of_place (s := s) hp'
      obtain ⟨key, kind⟩ := arbitration_inj (by omega) (by omega) (value ▸ value' ▸ same)
      have entry := keys _ _ (used_of_isPending laws hp h.1) (used_of_isPending laws hp' h'.1) key
      exact Request.eq_of_place hp (hp'.trans (congrArg some (Prod.ext entry.symm kind.symm)))

/-- Settles O32: the fold that chooses the offer is the list's `argmin`. -/
theorem offerIsTheLowestEligible : Obligations.OfferIsTheLowestEligible := by
  refine fun s => ⟨?_, fun q => offer_spec, fun keys laws config q q' => requestValue_inj keys laws config⟩
  rw [← not_exists, ← offer_isSome_iff_isEligible, Option.not_isSome_iff_eq_none]

/-! ### The capture (R64, R73, R99, R113) -/

theorem exec_startBitCapture_unoffered {s : State} (h : offer s = none) : exec .startBitCapture s = .next s := by
  rw [exec, execStartBitCapture, h]
  exact ite_self _

theorem exec_startBitCapture_offered {s : State} {q : Request} (phase : s.liu.phase = .idle) (empty : s.inFlight = none)
    (h : offer s = some q) : exec .startBitCapture s = .next { capture s q with liu := { s.liu with
      phase := .sending, sampled := [], contention := .sending, fault := none, window := none, markBits := 0 } } := by
  rw [exec, execStartBitCapture, if_pos ⟨phase, empty⟩, h]
  rfl

/-- Settles O33: what is captured of each kind is what the statement writes out, the parts an entry holds as an option
being there. -/
theorem startBitCapturesTheOffer : Obligations.StartBitCapturesTheOffer := by
  rintro s p phase empty params sending rfl
  have own := State.own_of_params params
  have captured := fun q (h : offer s = some q) => exec_startBitCapture_offered phase empty h
  refine ⟨exec_startBitCapture_unoffered, fun i n h pending => ?_, fun i y h yield => ?_, fun i c h claim => ?_,
    fun i h => ?_, fun t n h announce => ?_⟩
  · rw [captured _ h, capture, attemptsOf, contentOf, pending, own]
    rfl
  · rw [captured _ h, capture, attemptsOf, contentOf, yield, own]
    rfl
  · rw [captured _ h, capture, attemptsOf, contentOf, leaveSet, State.modRt_eq, claim, own]
    simp only [Option.map_some, Option.some.injEq]
  · rw [captured _ h, capture, attemptsOf, contentOf, own]
    rfl
  · rw [captured _ h, capture, attemptsOf, contentOf, announce, own]
    rfl

end Sys2Proof.Machine
end

section
/-! SUPPORT. What the outcomes of a PUBLISH and of an ANNOUNCE leave (R66, R70, R75 to R79, R84 to R87). -/

namespace Sys2Proof.Machine

/-! ### What is left of a PUBLISH (R70, R75) -/

/-- A returning PUBLISH at an entry that is PUBLISHER still. -/
theorem returnPublish_publisher {s : State} {i : EntryIx} (n : Nat) (role : (s.rt i).role = .publisher) :
    returnPublish s i n = { s with entries := s.entries.set i ⟨s.cfg i, { s.rt i with
      pending := { (s.rt i).pending with publish := some ((s.rt i).pending.publish.getD n) } }⟩ } := by
  rw [returnPublish, State.modRt_eq, if_pos role]

theorem returnPublish_other {s : State} {i : EntryIx} (n : Nat) (role : (s.rt i).role ≠ .publisher) :
    returnPublish s i n = s := State.modRt_of_eq s i _ (if_neg role)

theorem isAttempt_iff (o : TxOutcome) : o.isAttempt = true ↔ o = .completed ∨ o = .unheard ∨ o = .destroyed := by
  cases o <;> simp [TxOutcome.isAttempt]

theorem countAfter_attempt {o : TxOutcome} (n : Nat) (h : o.isAttempt = true) : countAfter n o = n + 1 := if_pos h

theorem countAfter_other {o : TxOutcome} (n : Nat) (h : o.isAttempt = false) : countAfter n o = n :=
  if_neg (Bool.eq_false_iff.1 h)

theorem startInhibit_eq (s : State) (i : EntryIx) (o : TxOutcome) : startInhibit s i o =
    if (o = .completed ∨ o = .unheard ∨ o = .destroyed) ∧ (s.cfg i).inhibit ≠ 0 ∧ (s.rt i).role = .publisher
      then { s with entries := s.entries.set i ⟨s.cfg i, { s.rt i with
        inhibitTimer := some ⟨s.time, (s.cfg i).inhibit⟩ }⟩ }
      else s := by
  simp only [← isAttempt_iff]
  split
  · next starts => rw [startInhibit, State.modRt_eq, if_pos starts]; rfl
  · next idle => exact State.modRt_of_eq s i _ (if_neg idle)

/-- Starting the inhibit timer leaves the rest of the entry. -/
theorem startInhibit_rt (s : State) (i : EntryIx) (o : TxOutcome) : ((startInhibit s i o).rt i).role = (s.rt i).role ∧
    ((startInhibit s i o).rt i).pending = (s.rt i).pending ∧
    ((startInhibit s i o).rt i).delivery = (s.rt i).delivery := by
  rw [startInhibit, State.modRt_rt_self]
  split <;> exact ⟨rfl, rfl, rfl⟩

@[simp] theorem startInhibit_cfg (s : State) (i j : EntryIx) (o : TxOutcome) :
    (startInhibit s i o).cfg j = s.cfg j := State.modRt_cfg s i j _

/-! ### Unconfirmed (R76, R77) -/

theorem governing_eq_none {r : Runtime} {captured : Byte}
    (h : ∀ d, r.delivery = some d → d.state ≠ .opened ∨ d.version ≠ captured) : governing r captured = none := by
  rw [governing]
  cases hd : r.delivery with
  | none => rfl
  | some d => exact if_neg (not_and_or.2 (h d hd))

theorem governing_eq_some {r : Runtime} {captured : Byte} {d : Delivery} (h : r.delivery = some d)
    (opened : d.state = .opened) (version : d.version = captured) : governing r captured = some d := by
  rw [governing, h]
  exact if_pos ⟨opened, version⟩

section
variable {s : State} {i : EntryIx} {n : Nat} {o : TxOutcome}

theorem unconfirmedPublish_outbid (h : o = .outbid ∨ o = .collided) : unconfirmedPublish s i n o = returnPublish s i n := by
  rcases h with rfl | rfl <;> rfl

/-- UNHEARD and DESTROYED are handled alike: the count decides (R77). -/
theorem unconfirmedPublish_counted (h : o = .unheard ∨ o = .destroyed) : unconfirmedPublish s i n o =
    if n + 1 < 16 then returnPublish s i (n + 1)
    else if (s.rt i).role = .publisher ∧ (s.rt i).pending.publish = none then post s i Reason.sendFailed.alone
    else s := by
  simp only [← Option.isNone_iff_eq_none]
  rcases h with rfl | rfl <;> rfl

end

/-! ### Governed by an OPEN delivery (R85 to R87) -/

theorem accountSlot_state (w : Window) (d : Delivery) (st : Station) : (accountSlot w d st).state = d.state := by
  unfold accountSlot
  repeat' split
  all_goals rfl

theorem accountWindow_state (required : StationSet) (d : Delivery) (w : Window) :
    (accountWindow required d w).state = d.state :=
  List.foldlRecOn (motive := fun e => e.state = d.state) _ _ rfl fun e kept st _ => (accountSlot_state w e st).trans kept

/-- The accounting leaves the state of the record, which the closing sets (R86, R87). -/
theorem account_state (c : ItemConfig) (d : Delivery) (o : TxOutcome) (w : Option Window) :
    (account c d o w).state = d.state := by
  unfold account
  split
  · exact accountWindow_state _ _ _
  · rfl

section
variable {s : State} {i : EntryIx} {d d' : Delivery} {n : Nat} {o : TxOutcome} {w : Option Window}

theorem closing_of_not_attempt (c : ItemConfig) (h : o.isAttempt = false) : closing c d o = none := by
  rw [closing, h]
  rfl

/-- R87's table for an outcome that counted. -/
theorem closing_of_attempt (c : ItemConfig) (h : o.isAttempt = true) : closing c d o =
    if d.receipts ||| d.refused = c.required then (if d.refused = 0 then some .delivered else some .undelivered)
    else if d.attempts = c.attemptLimit then some .undelivered else none := by
  rw [closing, if_pos h]
  by_cases answered : d.receipts ||| d.refused = c.required
  · have all : allAnswered c d = true := decide_eq_true answered
    simp only [all, answered, true_and, if_true]
  · have unanswered : allAnswered c d = false := decide_eq_false answered
    simp only [unanswered, answered, Bool.false_eq_true, false_and, if_false]

theorem governedPublish_closed {st : DeliveryState} (hd : d' = account (s.cfg i) d o w)
    (h : closing (s.cfg i) d' o = some st) : governedPublish s i d n o w =
      post (s.modRt i fun r => { r with delivery := some { d' with state := st } }) i (closingReason st).alone := by
  subst hd
  rw [governedPublish, h]

theorem governedPublish_kept (hd : d' = account (s.cfg i) d o w) (h : closing (s.cfg i) d' o = none) :
    governedPublish s i d n o w =
      returnPublish (s.modRt i fun r => { r with delivery := some d' }) i (countAfter n o) := by
  subst hd
  rw [governedPublish, h]

end

/-- An outcome of no OPEN delivery, or of another version, is unconfirmed (R76). -/
theorem publishOutcome_unconfirmed {s : State} {i : EntryIx} {n : Nat} {captured : Byte} {o : TxOutcome}
    {w : Option Window} (h : ∀ d, (s.rt i).delivery = some d → d.state ≠ .opened ∨ d.version ≠ captured) :
    publishOutcome s i n captured o w = unconfirmedPublish (startInhibit s i o) i n o := by
  obtain ⟨-, -, delivery⟩ := startInhibit_rt s i o
  simp only [publishOutcome, governing_eq_none (delivery ▸ h)]

theorem publishOutcome_governed {s : State} {i : EntryIx} {n : Nat} {captured : Byte} {o : TxOutcome}
    {w : Option Window} {d : Delivery} (h : (s.rt i).delivery = some d) (opened : d.state = .opened)
    (version : d.version = captured) :
    publishOutcome s i n captured o w = governedPublish (startInhibit s i o) i d n o w := by
  obtain ⟨-, -, delivery⟩ := startInhibit_rt s i o
  simp only [publishOutcome, governing_eq_some (delivery.trans h) opened version]

/-- Settles O44: the inhibit timer first; then the outcome is unconfirmed or governed by the record as it stands. -/
theorem publishOutcomesFollowTheTables : Obligations.PublishOutcomesFollowTheTables := by
  intro s i n captured o w u hu kept hkept
  rw [← startInhibit_eq] at hu
  subst hu
  obtain ⟨role, pending, -⟩ := startInhibit_rt s i o
  have cfg := startInhibit_cfg s i i o
  have returned : ∀ x k, returnPublish x i k = kept x k := by
    intro x k
    rw [hkept]
    split
    · next publisher =>
      rw [returnPublish_publisher k publisher]
      cases (x.rt i).pending.publish <;> rfl
    · next other => exact returnPublish_other k other
  refine ⟨fun ungoverned => ?_, fun d d' hd opened version hd' closed hclosed => ?_⟩
  · rw [publishOutcome_unconfirmed ungoverned]
    refine ⟨fun completed => ?_, fun back => ?_, fun counted => ⟨fun below => ?_, fun limit publisher empty => ?_,
      fun limit left => ?_⟩⟩
    · rw [completed]
      rfl
    · rw [unconfirmedPublish_outbid back, returned]
    · rw [unconfirmedPublish_counted counted, if_pos below, returned]
    · rw [unconfirmedPublish_counted counted, if_neg (Nat.not_lt.2 limit), role, pending, if_pos ⟨publisher, empty⟩]
    · rw [unconfirmedPublish_counted counted, if_neg (Nat.not_lt.2 limit), role, pending, if_neg (not_and_or.2 left)]
  · rw [publishOutcome_governed hd opened version]
    rw [← cfg] at hd' ⊢
    have closes : ∀ {st}, closing ((startInhibit s i o).cfg i) d' o = some st →
        governedPublish (startInhibit s i o) i d n o w = post (closed st) i (closingReason st).alone := by
      intro st h
      rw [governedPublish_closed hd' h, hclosed, State.modRt_eq]
    have keeps : closing ((startInhibit s i o).cfg i) d' o = none →
        governedPublish (startInhibit s i o) i d n o w = kept (closed .opened) (countAfter n o) := by
      intro h
      have still : { d' with state := .opened } = d' := by rw [← opened, ← account_state _ d o w, ← hd']
      rw [governedPublish_kept hd' h, returned, hclosed, still, State.modRt_eq]
    refine ⟨fun back => ?_, fun attempt => ?_⟩
    · have idle : o.isAttempt = false := by rcases back with rfl | rfl <;> rfl
      rw [keeps (closing_of_not_attempt _ idle), countAfter_other n idle]
    · have counted := (isAttempt_iff o).2 attempt
      have table := closing_of_attempt (d := d') ((startInhibit s i o).cfg i) counted
      refine ⟨fun answered accepted => ?_, fun answered refused => ?_, fun silent limit => ?_, fun silent below => ?_⟩
      · exact closes (by rw [table, if_pos answered, if_pos accepted])
      · exact closes (by rw [table, if_pos answered, if_neg refused])
      · exact closes (by rw [table, if_neg silent, if_pos limit])
      · rw [keeps (by rw [table, if_neg silent, if_neg below]), countAfter_attempt n counted]

/-! ### Announces (R66, R78, R79) -/

/-- The stronger of two announces, type by type (R66). -/
theorem strength_lt_iff (a b : AnnounceType) : a.strength < b.strength ↔
    (a = .present ∧ b ≠ .present) ∨ (a = .join ∧ b = .leave) := by
  cases a <;> cases b <;> simp [AnnounceType.strength]

theorem combineAnnounce_some (a b : AnnounceRequest) : combineAnnounce (some a) b =
    some (if (a.type = .present ∧ b.type ≠ .present) ∨ (a.type = .join ∧ b.type = .leave) then b else a) := by
  simp only [combineAnnounce, strength_lt_iff, apply_ite some]

/-- Whatever its type, an announce that was OUTBID returns with its count (R78, R79). -/
theorem announceOutcome_outbid (s : State) (t : AnnounceType) (n : Nat) :
    announceOutcome s t n .outbid = (returnAnnounce s t n, false) := by
  cases t <;> rfl

/-- A JOIN and a PRESENT are handled alike, and so are UNHEARD and DESTROYED (R78). -/
theorem announceOutcome_presence (s : State) {t : AnnounceType} (h : t = .join ∨ t = .present) (n : Nat) :
    announceOutcome s t n .completed = (s, false) ∧ ∀ o, (o = .unheard ∨ o = .destroyed) →
      announceOutcome s t n o = (if n + 1 < 16 then returnAnnounce s t (n + 1) else s, false) := by
  rcases h with rfl | rfl <;> exact ⟨rfl, by rintro o (rfl | rfl) <;> rfl⟩

/-- Settles O48: announces combine by strength; a returning one meets what was raised during its flight. -/
theorem announceOutcomesFollowTheRules : Obligations.AnnounceOutcomesFollowTheRules := by
  refine ⟨fun b => rfl, combineAnnounce_some, fun s t n back hback => ?_⟩
  obtain rfl : back = returnAnnounce s t := funext hback
  refine ⟨announceOutcome_outbid s t n, fun presence => announceOutcome_presence s presence n, ?_⟩
  rintro rfl
  exact ⟨rfl, rfl, rfl⟩

end Sys2Proof.Machine
end

section
/-! SUPPORT. What the accounting of a governed outcome leaves of a delivery record, station by station (R85, R86). -/

namespace Sys2Proof.Machine

/-! ### One station's bits under one slot (R86) -/

/-- A station's bit in receipts and its bit in refused. -/
def Delivery.bits (d : Delivery) (st : Station) : Bool × Bool := (inSet d.receipts st, inSet d.refused st)

/-- The two bits of a required receiver after its slot is read. -/
def SlotSymbol.read : SlotSymbol → Bool × Bool → Bool × Bool
  | .taken, _ => (true, false)
  | .seen, (receipt, refusal) => (receipt, refusal || !receipt)
  | .busy, b | .absent, b => b

/-- A slot read twice says no more than read once, so it does not matter how often the accounting meets a station. -/
@[simp] theorem SlotSymbol.read_read (y : SlotSymbol) (b : Bool × Bool) : y.read (y.read b) = y.read b := by
  cases y <;> simp [SlotSymbol.read]

@[simp] theorem inSet_or (x y : StationSet) (st : Station) : inSet (x ||| y) st = (inSet x st || inSet y st) :=
  BitVec.getLsbD_or

@[simp] theorem inSet_and_not (x y : StationSet) (st : Station) :
    inSet (x &&& ~~~y) st = (inSet x st && !inSet y st) := by
  simp [inSet]

@[simp] theorem inSet_onlyStation (x st : Station) : inSet (onlyStation x) st = decide (x = st) := onlyStation_bit x st

/-- Reading a station's slot changes the bits of that station alone. -/
theorem accountSlot_bits (w : Window) (d : Delivery) (x st : Station) :
    (accountSlot w d x).bits st = if x = st then (w[st]).read (d.bits st) else d.bits st := by
  by_cases own : x = st
  · subst own
    rw [if_pos rfl, accountSlot]
    cases w[x]
    case taken => simp [Delivery.bits, SlotSymbol.read]
    case seen => cases receipt : inSet d.receipts x <;> simp [Delivery.bits, SlotSymbol.read, receipt]
    case busy | absent => rfl
  · rw [if_neg own, accountSlot]
    cases w[x]
    case taken => simp [Delivery.bits, own]
    case seen => cases inSet d.receipts x <;> simp [Delivery.bits, own]
    case busy | absent => rfl

/-! ### The whole window (R86) -/

theorem foldl_accountSlot_bits (w : Window) (st : Station) (l : List Station) (d : Delivery) :
    (l.foldl (accountSlot w) d).bits st = if st ∈ l then (w[st]).read (d.bits st) else d.bits st := by
  induction l generalizing d with
  | nil => rfl
  | cons x xs ih =>
    rw [List.foldl_cons, ih, accountSlot_bits]
    by_cases own : x = st
    · simp [own]
    · simp [own, Ne.symm own]

theorem accountWindow_bits (required : StationSet) (d : Delivery) (w : Window) (st : Station) :
    (accountWindow required d w).bits st = if inSet required st then (w[st]).read (d.bits st) else d.bits st := by
  simp [accountWindow, foldl_accountSlot_bits]

theorem accountSlot_version_attempts (w : Window) (d : Delivery) (st : Station) :
    (accountSlot w d st).version = d.version ∧ (accountSlot w d st).attempts = d.attempts := by
  unfold accountSlot
  repeat' split
  all_goals exact ⟨rfl, rfl⟩

theorem accountWindow_version_attempts (required : StationSet) (d : Delivery) (w : Window) :
    (accountWindow required d w).version = d.version ∧ (accountWindow required d w).attempts = d.attempts :=
  List.foldlRecOn (motive := fun e => e.version = d.version ∧ e.attempts = d.attempts) _ _ ⟨rfl, rfl⟩
    fun e ⟨version, attempts⟩ st _ => (accountSlot_version_attempts w e st).imp (·.trans version) (·.trans attempts)

/-! ### The accounting (R85, R86) -/

theorem countAfter_eq (n : Nat) (o : TxOutcome) :
    countAfter n o = if o = .completed ∨ o = .unheard ∨ o = .destroyed then n + 1 else n := by
  simp only [countAfter, isAttempt_iff]

/-- Every outcome but COMPLETED leaves the window unread. -/
theorem account_of_not_completed (c : ItemConfig) (d : Delivery) {o : TxOutcome} (w : Option Window)
    (h : o ≠ .completed) : account c d o w = { d with attempts := countAfter d.attempts o } := by
  cases o
  case completed => exact absurd rfl h
  all_goals rfl

theorem account_version_attempts (c : ItemConfig) (d : Delivery) (o : TxOutcome) (w : Option Window) :
    (account c d o w).version = d.version ∧ (account c d o w).attempts = countAfter d.attempts o := by
  unfold account
  split
  · exact accountWindow_version_attempts _ _ _
  · exact ⟨rfl, rfl⟩

/-- COMPLETED reads the slots of the required receivers and of no other station. -/
theorem account_completed_bits (c : ItemConfig) (d : Delivery) (w : Window) (st : Station) :
    (account c d .completed (some w)).bits st =
      if inSet c.required st then (w[st]).read (d.bits st) else d.bits st :=
  accountWindow_bits c.required _ w st

/-- Settles O45: the frame of the accounting, and the bits of one station under its slot. -/
theorem accountingReadsTheRequiredSlots : Obligations.AccountingReadsTheRequiredSlots := by
  intro c d o w st window
  obtain ⟨version, attempts⟩ := account_version_attempts c d o window
  have bits := account_completed_bits c d w st
  refine ⟨⟨account_state c d o window, version, attempts.trans (countAfter_eq _ _)⟩, fun unread => ?_,
    fun other => ?_, fun required => ?_⟩
  · rw [account_of_not_completed c d window unread]
    exact ⟨rfl, rfl⟩
  · exact Prod.mk.inj (bits.trans (if_neg (Bool.eq_false_iff.1 other)))
  · have slot := bits.trans (if_pos required)
    refine ⟨(congrArg Prod.fst slot).trans ?_, (congrArg Prod.snd slot).trans ?_⟩
    · cases w[st] <;> simp [SlotSymbol.read, Delivery.bits, inSet]
    · cases w[st] <;> rfl

end Sys2Proof.Machine
end

section
/-! SUPPORT. The Pull Table: the record of an entry and its removal (R95, R96), the PULL command (R97), the reply timer
(R102), and the outcomes of a PULL frame with the merge watch (R99 to R101); and the own announce timer (R137). -/

namespace Sys2Proof.Machine

/-! ### The record of an entry (R95) -/

/-- Where one element of a list alone has a property, it is the one found. -/
theorem find?_of_unique {α : Type} {l : List α} {P : α → Bool} {a : α} (mem : a ∈ l) (holds : P a = true)
    (unique : ∀ b ∈ l, P b = true → b = a) : l.find? P = some a := by
  cases found : l.find? P with
  | none => exact absurd holds (List.find?_eq_none.1 found a mem)
  | some b => rw [unique b (List.mem_of_find?_eq_some found) (List.find?_some found)]

/-- `s` with `r` in the place of the record of entry `i`, whose PULL is pending as `raised` says. -/
def putPull (s : State) (i : EntryIx) (r : PullRecord) (raised : Bool) : State :=
  { s with
    pulls := s.pulls.map fun q => if q.entry = i then r else q
    entries := s.entries.set i ⟨s.cfg i, { s.rt i with pending := { (s.rt i).pending with pull := raised } }⟩ }

theorem findPull_eq_none {s : State} {i : EntryIx} (unrecorded : ∀ q ∈ s.pulls, q.entry ≠ i) :
    findPull s i = none := by
  simpa [findPull] using unrecorded

section
variable {s : State} {p : PullRecord} (mem : p ∈ s.pulls) (nodup : (s.pulls.map (·.entry)).Nodup)
include mem nodup

/-- No two records are for one entry, so an entry's record is the one found for it. -/
theorem findPull_of_mem : findPull s p.entry = some p :=
  find?_of_unique mem (decide_eq_true rfl) fun _ hq same =>
    List.inj_on_of_nodup_map nodup hq mem (of_decide_eq_true same)

/-- Changing the record of an entry replaces that record. -/
theorem modPull_of_mem (f : PullRecord → PullRecord) :
    modPull s p.entry f = { s with pulls := s.pulls.map fun q => if q.entry = p.entry then f p else q } := by
  have replaced : ∀ q ∈ s.pulls, (if q.entry = p.entry then f q else q) = if q.entry = p.entry then f p else q := by
    intro q hq
    split
    · next same => rw [List.inj_on_of_nodup_map nodup hq mem same]
    · rfl
  rw [modPull, List.map_congr_left replaced]

theorem modPull_modRt_of_mem (f : PullRecord → PullRecord) (raised : Bool) :
    ((modPull s p.entry f).modRt p.entry fun r => { r with pending := { r.pending with pull := raised } })
      = putPull s p.entry (f p) raised := by
  rw [modPull_of_mem mem nodup]
  rfl

/-- A kept record waits with its PULL raised (R99). -/
theorem keepPull_of_mem (f : PullRecord → PullRecord) : keepPull s p.entry f = putPull s p.entry (f p) true :=
  modPull_modRt_of_mem mem nodup f true

end

/-! ### A record changed and then changed again, or removed -/

section
variable {s : State} {i : EntryIx} {f : PullRecord → PullRecord} (same : ∀ q, (f q).entry = q.entry)
include same

theorem modPull_modPull (g : PullRecord → PullRecord) : modPull (modPull s i f) i g = modPull s i fun q => g (f q) := by
  simp only [modPull, List.map_map]
  congr 1
  refine List.map_congr_left fun q _ => ?_
  by_cases h : q.entry = i <;> simp [h, same]

/-- What the record held is lost with its removal. -/
theorem removePull_modPull (recorded : ∃ q ∈ s.pulls, q.entry = i) : removePull (modPull s i f) i = removePull s i := by
  have found : (findPull (modPull s i f) i).isSome = true := by
    obtain ⟨q, mem, entry⟩ := recorded
    exact (findPull_isSome _ i).2 ⟨f q, List.mem_map.2 ⟨q, mem, if_pos entry⟩, (same q).trans entry⟩
  have others : (modPull s i f).pulls.filter (fun q => !decide (q.entry = i))
      = s.pulls.filter fun q => !decide (q.entry = i) := by
    simp only [modPull]
    induction s.pulls with
    | nil => rfl
    | cons q qs ih => by_cases h : q.entry = i <;> simp [h, same, ih]
  rw [removePull, if_pos found, others, removePull, if_pos ((findPull_isSome s i).2 recorded)]
  rfl

end

/-! ### The removal of a record (R96) -/

section
variable {s : State} {i j : EntryIx}

theorem removePull_unrecorded (unrecorded : ∀ p ∈ s.pulls, p.entry ≠ i) : removePull s i = s := by
  rw [removePull, findPull_eq_none unrecorded, Option.isSome_none, if_neg Bool.false_ne_true]

/-- The record goes with its pending PULL, and the table is refilled. -/
theorem removePull_recorded (recorded : ∃ p ∈ s.pulls, p.entry = i) : removePull s i = refillPulls { s with
    pulls := s.pulls.filter fun p => decide (p.entry ≠ i)
    entries := s.entries.set i ⟨s.cfg i, { s.rt i with pending := { (s.rt i).pending with pull := false } }⟩ } := by
  simp only [removePull, if_pos ((findPull_isSome s i).2 recorded), decide_not, State.modRt_eq]
  rfl

theorem refillPulls_unwanted (unwanted : ∀ j, (s.rt j).pullWanted = false) : refillPulls s = s := by
  rw [refillPulls, lowestEntry_eq_none.2 unwanted]

theorem refillPulls_lowest (wanted : (s.rt j).pullWanted = true) (low : ∀ k, k < j → (s.rt k).pullWanted = false) :
    refillPulls s = { s with
      pulls := s.pulls ++ [⟨j, .waiting, 0, none, false, false⟩]
      entries := s.entries.set j ⟨s.cfg j, { s.rt j with
        pullWanted := false, pending := { (s.rt j).pending with pull := true } }⟩ } := by
  have added : ∀ f : Runtime → Runtime, addPull (s.modRt j f) j =
      (({ s with pulls := s.pulls ++ [⟨j, .waiting, 0, none, false, false⟩] } : State).modRt j f).modRt j
        fun r => { r with pending := { r.pending with pull := true } } := fun _ => rfl
  rw [refillPulls, lowestEntry_eq_some wanted low]
  exact (added _).trans (State.modRt_modRt _ j _ _)

end

/-- Settles O14: withdrawing a PULL leaves every pull-wanted mark, so the entry served is the lowest marked before. -/
theorem pullRemovalServesTheLowestMark : Obligations.PullRemovalServesTheLowestMark := by
  refine fun s i => ⟨removePull_unrecorded, fun recorded u hu => ?_⟩
  have marks : ∀ j, (u.rt j).pullWanted = (s.rt j).pullWanted := by
    intro j
    have rt : u.rt j = (s.modRt i fun r => { r with pending := { r.pending with pull := false } }).rt j := by
      rw [hu]
      rfl
    rw [rt, State.modRt_rt]
    split <;> rfl
  rw [removePull_recorded recorded, ← hu]
  simp only [← marks]
  exact ⟨refillPulls_unwanted, fun j => refillPulls_lowest⟩

/-! ### The PULL command (R97) -/

section
variable {s : State} {i : EntryIx} {rest : List Byte}

theorem exec_pull_taken (used : (s.cfg i).role ≠ .unused)
    (taken : (s.rt i).role = .subscriber ∧ takesRequests s.lifecycle = true) :
    exec (.pull (entryByte i :: rest)) s = .next
      (if (findPull s i).isSome = true then withReply s (entryByte i :: rest) s [0x00]
      else if s.pulls.length < 8 then withReply s (entryByte i :: rest) (addPull s i) [0x00]
      else withReply s (entryByte i :: rest) s [0x02]) := by
  rw [exec, execPull, onEntry_used s i rest _ used, if_pos taken]
  rfl

theorem exec_pull_refused (used : (s.cfg i).role ≠ .unused)
    (refused : ¬ ((s.rt i).role = .subscriber ∧ takesRequests s.lifecycle = true)) :
    exec (.pull (entryByte i :: rest)) s = .next (withReply s (entryByte i :: rest) s [0x03]) := by
  rw [exec, execPull, onEntry_used s i rest _ used, if_neg refused]
  rfl

end

/-- Settles O13: a record held, a place free, and neither. -/
theorem pullCommandAddsOrMerges : Obligations.PullCommandAddsOrMerges := by
  refine fun s i rest used => ⟨fun role lifecycle => ?_, fun outside => exec_pull_refused used ?_⟩
  · have taken := exec_pull_taken (rest := rest) used ⟨role, (takesRequests_iff _).2 lifecycle⟩
    refine ⟨fun recorded => ?_, fun unrecorded free => ?_, fun unrecorded full => ?_⟩
    · rw [taken, if_pos ((findPull_isSome s i).2 recorded)]
    · rw [taken, findPull_eq_none unrecorded, if_neg (by simp), if_pos free]
      rfl
    · rw [taken, findPull_eq_none unrecorded, if_neg (by simp), if_neg (Nat.not_lt.2 full)]
  · rw [takesRequests_iff]
    rintro ⟨role, lifecycle⟩
    rcases outside with other | configuring | halted
    · exact other role
    · simp [configuring] at lifecycle
    · simp [halted] at lifecycle

/-! ### The reply timer and the own announce timer (R102, R137) -/

theorem exec_pullReplyTimerExpiry_due {s : State} {i : EntryIx} {p : PullRecord} (found : findPull s i = some p)
    (due : timerDue s.time p.replyTimer = true) : exec (.pullReplyTimerExpiry i) s = .next
      (if p.attempts < 3 then keepPull s i fun q => { q with phase := .waiting, replyTimer := none }
        else pullUnanswered s i) := by
  rw [exec, execPullReplyTimerExpiry, found]
  simp only [due, if_true]
  split <;> rfl

theorem exec_ownAnnounceTimerExpiry_due {s : State} (due : timerDue s.time s.announceTimer = true) :
    exec .ownAnnounceTimerExpiry s = .next (restartAnnounceTimer (raiseAnnounce s .present)) := by
  rw [exec, execOwnAnnounceTimerExpiry, if_pos due]
  rfl

/-- A PRESENT is the weakest announce: any other absorbs it (R66). -/
theorem combineAnnounce_present (a : Option AnnounceRequest) (n : Nat) :
    combineAnnounce a ⟨.present, n⟩ = some (a.getD ⟨.present, n⟩) := by
  cases a with
  | none => rfl
  | some b => simp [combineAnnounce_some]

theorem restartAnnounceTimer_of_params {s : State} {p : StationParams} (h : s.params = some p) :
    restartAnnounceTimer s = { s with
      announceTimer := if s.lifecycle = .online then some ⟨s.time, p.announce⟩ else s.announceTimer } := by
  rw [restartAnnounceTimer, durationParam_of_params h]
  split <;> rfl

/-- Settles O27: a due reply timer finds the one record of its entry; the announce raised is the weakest there is. -/
theorem replyAndAnnounceTimersRunOut : Obligations.ReplyAndAnnounceTimersRunOut := by
  refine ⟨fun s p r mem nodup timer passed => ?_, fun s r p timer params passed => ?_⟩
  · have due : timerDue s.time p.replyTimer = true := timer ▸ (timerDue_some s.time r).2 passed
    have ran := exec_pullReplyTimerExpiry_due (findPull_of_mem mem nodup) due
    refine ⟨fun few => ?_, fun many => ?_⟩
    · rw [ran, if_pos few, keepPull_of_mem mem nodup]
      rfl
    · rw [ran, if_neg (Nat.not_lt.2 many)]
      rfl
  · have due : timerDue s.time s.announceTimer = true := timer ▸ (timerDue_some s.time r).2 passed
    have raised : (raiseAnnounce s .present).params = some p := by rw [raiseAnnounce_params, params]
    rw [exec_ownAnnounceTimerExpiry_due due, restartAnnounceTimer_of_params raised, raiseAnnounce,
      combineAnnounce_present, ← timer]
    cases s.announce <;> rfl

/-! ### A window judged (R100) -/

/-- A record taken by an owner: SENT, its reply timer started. -/
theorem pullTaken_of_params {s : State} {params : StationParams} (hparams : s.params = some params) (i : EntryIx) :
    pullTaken s i =
      (modPull s i fun p => ⟨p.entry, .sent, p.attempts, some ⟨s.time, params.pull⟩, false, false⟩).modRt i
        fun r => { r with pending := { r.pending with pull := false } } := by
  rw [pullTaken, durationParam_of_params hparams]
  rfl

theorem judgePullWindow_taken {s : State} {i : EntryIx} {w : Window} (taken : ∃ st : Station, w[st] = .taken) :
    judgePullWindow s i w = pullTaken s i := if_pos ((someTaken_iff w).2 taken)

theorem judgePullWindow_untaken {s : State} {i : EntryIx} {w : Window} (untaken : ∀ st : Station, w[st] ≠ .taken) :
    judgePullWindow s i w = pullUnanswered s i :=
  if_neg fun taken => ((someTaken_iff w).1 taken).elim untaken

/-! ### The outcomes of a PULL frame (R99 to R101) -/

/-- A record after an outcome of its frame that counts: one attempt more, the frame no longer its own. -/
def countedPull (p : PullRecord) : PullRecord := { p with attempts := p.attempts + 1, onLine := false }

theorem countedPull_entry (p : PullRecord) : (countedPull p).entry = p.entry := rfl

/-- An outcome is taken for the record that marks the frame as its own. -/
theorem pullOutcome_unmarked {s : State} {i : EntryIx} {o : TxOutcome} {w : Option Window}
    (unmarked : ∀ q ∈ s.pulls, q.entry = i → q.onLine = false) : pullOutcome s i o w = s := by
  rw [pullOutcome]
  split
  · rfl
  · next q found =>
    obtain ⟨mem, entry⟩ := findPull_spec found
    rw [unmarked q mem entry, if_neg Bool.false_ne_true]

section
variable {s : State} {p : PullRecord} {i : EntryIx} {w : Option Window} (found : findPull s i = some p)
  (own : p.onLine = true)
include found own

theorem pullOutcome_completed (w : Window) :
    pullOutcome s i .completed (some w) = judgePullWindow (modPull s i countedPull) i w := by
  rw [pullOutcome, found]
  exact if_pos own

theorem pullOutcome_unheard : pullOutcome s i .unheard w = pullUnanswered s i := by
  rw [pullOutcome, found]
  exact if_pos own

theorem pullOutcome_destroyed : pullOutcome s i .destroyed w =
    if p.attempts + 1 < 3 then keepPull s i countedPull else pullUnanswered s i := by
  rw [pullOutcome, found]
  exact if_pos own

theorem pullOutcome_outbid : pullOutcome s i .outbid w = keepPull s i fun q => { q with onLine := false } := by
  rw [pullOutcome, found]
  exact if_pos own

theorem pullOutcome_collided :
    pullOutcome s i .collided w = keepPull s i fun q => { countedPull q with mergeWatch := true } := by
  rw [pullOutcome, found]
  exact if_pos own

end

/-! ### The merge watch (R101) -/

section
variable {s : State} {p : PullRecord} {i : EntryIx} {w : Window}

theorem judgeMergeWatch_watched (found : findPull s i = some p) (watch : p.mergeWatch = true) :
    judgeMergeWatch s i w = judgePullWindow s i w := by
  rw [judgeMergeWatch, found]
  exact if_pos watch

theorem judgeMergeWatch_unwatched (found : findPull s i = some p) (unwatched : p.mergeWatch = false) :
    judgeMergeWatch s i w = s := by
  rw [judgeMergeWatch, found]
  exact if_neg (Bool.eq_false_iff.1 unwatched)

theorem abandonMergeWatch_watched (found : s.pulls.find? (·.mergeWatch) = some p) : abandonMergeWatch s =
    if p.attempts < 3 then modPull s p.entry fun q => { q with mergeWatch := false } else pullUnanswered s p.entry := by
  rw [abandonMergeWatch, found]

end

/-- Settles O46: the attempt counted before a window is judged stays with a record taken and goes with one removed. -/
theorem pullOutcomesFollowTheTables : Obligations.PullOutcomesFollowTheTables := by
  refine ⟨fun s i o w => pullOutcome_unmarked, ?_⟩
  rintro s p params w hparams mem nodup becomes hbecomes gone rfl
  obtain rfl : becomes = putPull s p.entry := funext₂ hbecomes
  have found := findPull_of_mem mem nodup
  refine ⟨fun own => ?_, fun watch => ?_, judgeMergeWatch_unwatched found⟩
  · have completed := pullOutcome_completed found own w
    have destroyed := pullOutcome_destroyed (w := none) found own
    refine ⟨fun taken => ?_, fun untaken => ?_, pullOutcome_unheard found own, fun few => ?_, fun many => ?_, ?_, ?_⟩
    · rw [completed, judgePullWindow_taken taken, pullTaken_of_params (s := modPull s p.entry countedPull) hparams,
        modPull_modPull countedPull_entry]
      exact modPull_modRt_of_mem mem nodup _ false
    · rw [completed, judgePullWindow_untaken untaken, pullUnanswered,
        removePull_modPull countedPull_entry ⟨p, mem, rfl⟩]
    · rw [destroyed, if_pos few, keepPull_of_mem mem nodup]
      rfl
    · rw [destroyed, if_neg (Nat.not_lt.2 many)]
      rfl
    · rw [pullOutcome_outbid found own, keepPull_of_mem mem nodup]
    · rw [pullOutcome_collided found own, keepPull_of_mem mem nodup]
      rfl
  · have judged := judgeMergeWatch_watched (w := w) found watch
    refine ⟨fun taken => ?_, fun untaken => ?_, fun unique => ?_⟩
    · rw [judged, judgePullWindow_taken taken, pullTaken_of_params hparams]
      exact modPull_modRt_of_mem mem nodup _ false
    · rw [judged, judgePullWindow_untaken untaken]
      rfl
    · have abandoned := abandonMergeWatch_watched (find?_of_unique mem watch unique)
      refine ⟨fun few => ?_, fun many => ?_⟩
      · rw [abandoned, if_pos few, modPull_of_mem mem nodup]
      · rw [abandoned, if_neg (Nat.not_lt.2 many)]
        rfl

end Sys2Proof.Machine
end

section
/-! SUPPORT. What the owner-side verdicts do at completion (R107, R118, R123, R125 to R127). -/

namespace Sys2Proof.Machine

/-! ### PUBLISH raised (R65) -/

theorem raisePublish_eq (s : State) (i : EntryIx) : raisePublish s i = if (s.rt i).role = .publisher then { s with
    entries := s.entries.set i ⟨s.cfg i, { s.rt i with pending := { (s.rt i).pending with
      publish := some (match (s.rt i).pending.publish with | some n => n | none => 0) } }⟩ } else s := by
  by_cases role : (s.rt i).role = .publisher
  · rw [raisePublish, State.modRt_eq, if_pos role, if_pos role]
    cases (s.rt i).pending.publish <;> rfl
  · rw [if_neg role]
    exact State.modRt_of_eq s i _ (if_neg role)

/-! ### The verdicts, one by one -/

section
variable {s : State} {v : VerdictRecord} {i : EntryIx}

section
variable (entry : v.entry = some i)
include entry

theorem applyVerdict_serve (h : v.verdict = .serve) : applyVerdict s v = raisePublish s i := by
  simp only [applyVerdict, entry, h]

theorem applyVerdict_reassert (h : v.verdict = .reassert) : applyVerdict s v = raisePublish (post s i v.reasons) i := by
  simp only [applyVerdict, entry, h]

theorem applyVerdict_outranked (h : v.verdict = .outranked) : applyVerdict s v = post s i v.reasons := by
  simp only [applyVerdict, entry, h]

theorem applyVerdict_cede (h : v.verdict = .cede) : applyVerdict s v = applyCede s i v := by
  simp only [applyVerdict, entry, h]

theorem applyVerdict_assume (h : v.verdict = .assume) : applyVerdict s v = applyAssume s i v := by
  simp only [applyVerdict, entry, h]

theorem applyVerdict_depose (h : v.verdict = .depose) : applyVerdict s v = applyDepose s i v := by
  simp only [applyVerdict, entry, h]

end

/-- CEDE where this station answered and is the owner still: a NORMAL claim that saw a newer generation is a conflict
(R118). -/
theorem applyCede_owner {seen : Byte} {adopting : Bool} (claim : v.frame.body = .claim seen adopting)
    (driven : v.driven = true) (role : (s.rt i).role = .publisher) : applyCede s i v =
      if adopting = false ∧ newer (s.rt i).generation seen = true then
        post (enterYielding s i v.frame.source) i Reason.conflict.alone
      else enterYielding s i v.frame.source := by
  rw [applyCede, if_pos ⟨driven, role⟩, claim]
  cases adopting <;> simp

theorem applyCede_other (h : v.driven = false ∨ (s.rt i).role ≠ .publisher) : applyCede s i v = s :=
  if_neg fun ⟨driven, role⟩ => h.elim (fun undriven => by simp [undriven] at driven) fun other => other role

variable {eff : Station} {g ver : Byte} {bytes : List Byte}

theorem applyAssume_mirror (frame : publication v.frame eff g ver bytes) (driven : v.driven = true)
    (role : (s.rt i).role = .subscriber ∨ (s.rt i).role = .claiming) :
    applyAssume s i v = enterPublisher s i g ver (storeValue (s.rt i).storage bytes) := by
  rw [applyAssume, if_pos ⟨driven, (isMirror_iff _).2 role⟩, frame.content]

theorem applyAssume_other
    (h : v.driven = false ∨ ((s.rt i).role ≠ .subscriber ∧ (s.rt i).role ≠ .claiming)) : applyAssume s i v = s := by
  refine if_neg fun ⟨driven, mirror⟩ => ?_
  rcases h with undriven | ⟨notSubscriber, notClaiming⟩
  · simp [undriven] at driven
  · exact ((isMirror_iff _).1 mirror).elim notSubscriber notClaiming

theorem applyDepose_owner (frame : publication v.frame eff g ver bytes) (effective : v.effective = some eff)
    (role : (s.rt i).role = .publisher ∨ (s.rt i).role = .yielding) :
    applyDepose s i v = post (enterMirror s i eff g ver (storeValue (s.rt i).storage bytes)) i v.reasons := by
  rw [applyDepose, if_pos role, frame.content, effective]
  rfl

theorem applyDepose_other (notPublisher : (s.rt i).role ≠ .publisher) (notYielding : (s.rt i).role ≠ .yielding) :
    applyDepose s i v = s := if_neg fun role => role.elim notPublisher notYielding

end

/-- Settles O40: the storage that ASSUME and DEPOSE leave is that of `storeValue`. -/
theorem ownerVerdictsAreApplied : Obligations.OwnerVerdictsAreApplied := by
  intro s v i entry reraised hreraised
  obtain rfl : reraised = (raisePublish · i) := funext fun x => (hreraised x).trans (raisePublish_eq x i).symm
  refine ⟨applyVerdict_serve entry, applyVerdict_reassert entry, applyVerdict_outranked entry,
    fun seen adopting cede claim => ?_, fun eff g ver bytes frame short =>
    ⟨storeValue (s.rt i).storage bytes, storeValue_toList _ _ short, fun assume => ?_, fun depose effective => ?_⟩⟩
  · rw [applyVerdict_cede entry cede]
    refine ⟨fun driven role => ?_, applyCede_other⟩
    rw [applyCede_owner claim driven role, ← newer_iff]
    refine ⟨fun normal news => if_pos ⟨normal, news⟩, fun old => if_neg fun ⟨normal, news⟩ => ?_⟩
    rcases old with adopting | unseen
    · simp [normal] at adopting
    · exact unseen news
  · rw [applyVerdict_assume entry assume]
    exact ⟨applyAssume_mirror frame, applyAssume_other⟩
  · rw [applyVerdict_depose entry depose]
    exact ⟨applyDepose_owner frame effective, applyDepose_other⟩

end Sys2Proof.Machine
end

section
/-! SUPPORT. The transfer of an item as its two ends see it: the CLAIM command (R110), the outcomes of a CLAIM frame
(R113 to R116), and the outcomes of a YIELD frame (R119 to R121). -/

namespace Sys2Proof.Machine

/-! ### The CLAIM command (R110) -/

section
variable {s : State} {i : EntryIx} {rest : List Byte}

/-- What R110 asks of an entry and of the station. -/
abbrev claimable (s : State) (i : EntryIx) : Prop :=
  (s.cfg i).movable = true ∧ (s.rt i).role = .subscriber ∧ (s.rt i).held = false ∧
    takesRequests s.lifecycle = true

theorem not_claimable (h : (s.cfg i).movable = false ∨ (s.rt i).role ≠ .subscriber ∨ (s.rt i).held = true
    ∨ s.lifecycle = .configuring ∨ s.lifecycle = .halted) : ¬ claimable s i := by
  rintro ⟨movable, role, unheld, lifecycle⟩
  rw [takesRequests_iff] at lifecycle
  rcases h with fixed | other | held | configuring | halted
  · simp [fixed] at movable
  · exact other role
  · simp [held] at unheld
  · simp [configuring] at lifecycle
  · simp [halted] at lifecycle

theorem exec_claim_taken (used : (s.cfg i).role ≠ .unused) (taken : claimable s i) :
    exec (.claim (entryByte i :: rest)) s = .next (withReply s (entryByte i :: rest) (takeClaim s i) [0x00]) := by
  rw [exec, execClaim, onEntry_used s i rest _ used, if_pos taken]
  rfl

theorem exec_claim_refused (used : (s.cfg i).role ≠ .unused) (refused : ¬ claimable s i) :
    exec (.claim (entryByte i :: rest)) s = .next (withReply s (entryByte i :: rest) s [0x03]) := by
  rw [exec, execClaim, onEntry_used s i rest _ used, if_neg refused]
  rfl

/-- The removal of the pull record leaves the mirror state, so the claim kind is that of the entry before it. -/
theorem takeClaim_of_params {p : StationParams} (h : s.params = some p) :
    takeClaim s i = (removePull s i).modRt i fun r => { r with
      role := .claiming, claim := some ⟨claimKindOf (s.rt i).mirror, false⟩
      claimTimer := some ⟨s.time, p.claim⟩, freshTimer := none, pullWanted := false
      pending := { r.pending with claim := true } } := by
  have mirror : ((removePull s i).rt i).mirror = (s.rt i).mirror := by rw [removePull_rt]
  rw [takeClaim, durationParam_of_params h, State.modRt_eq, State.modRt_eq, mirror]
  rfl

end

/-- Settles O15: a claimable entry is taken, any other refused. -/
theorem claimCommandStartsAClaim : Obligations.ClaimCommandStartsAClaim := by
  refine fun s i rest used => ⟨?_, fun outside => exec_claim_refused used (not_claimable outside)⟩
  rintro movable role unheld lifecycle p params u rfl
  rw [exec_claim_taken used ⟨movable, role, unheld, (takesRequests_iff _).2 lifecycle⟩, takeClaim_of_params params]
  rfl

/-! ### A CLAIM that ends COMPLETED (R114) -/

theorem takenBesides_iff (own : Station) (w : Window) :
    takenBesides own w = true ↔ ∃ st, st ≠ own ∧ w[st] = .taken := by
  simp [takenBesides]

section
variable {s : State} {i : EntryIx} {k : ClaimKind} {w : Window}

theorem claimCompleted_taken (taken : ∃ st, st ≠ s.own ∧ w[st] = .taken) : claimCompleted s i k w = s :=
  if_pos ((takenBesides_iff _ w).2 taken)

section
variable (untaken : ∀ st, st ≠ s.own → w[st] ≠ .taken)
include untaken

theorem not_takenBesides : ¬ takenBesides s.own w = true := fun taken =>
  have ⟨st, other, slot⟩ := (takenBesides_iff _ w).1 taken
  untaken st other slot

theorem claimCompleted_adopt : claimCompleted s i .adopt w = adopt s i := if_neg (not_takenBesides untaken)

/-- The answer of the recorded source decides a NORMAL claim that no station took. -/
theorem claimCompleted_normal {src : Origin} (source : (s.rt i).source = some src) :
    claimCompleted s i .normal w =
      if w[src.station] = .seen then endClaim s i .claimRefused else keepClaim s i := by
  rw [claimCompleted, if_neg (not_takenBesides untaken), source]

end

end

/-! ### The outcomes of a CLAIM frame (R113 to R116) -/

/-- `s` with the claim frame mark of entry `i`, whose claim is of kind `k`, cleared. -/
def clearClaimMark (s : State) (i : EntryIx) (k : ClaimKind) : State :=
  s.modRt i fun r => { r with claim := some ⟨k, false⟩ }

theorem clearClaimMark_source (s : State) (i : EntryIx) (k : ClaimKind) :
    ((clearClaimMark s i k).rt i).source = (s.rt i).source := by
  rw [clearClaimMark, State.modRt_rt_self]

theorem clearClaimMark_own (s : State) (i : EntryIx) (k : ClaimKind) : (clearClaimMark s i k).own = s.own := rfl

/-- A kept CLAIM is pending again beside the cleared mark. -/
theorem keepClaim_clearClaimMark (s : State) (i : EntryIx) (k : ClaimKind) :
    keepClaim (clearClaimMark s i k) i = s.modRt i fun r => { r with
      claim := some ⟨k, false⟩, pending := { r.pending with claim := true } } := State.modRt_modRt s i _ _

/-- An outcome is taken for the running claim that marks the frame as its own. -/
theorem claimOutcome_unmarked {s : State} {i : EntryIx} {o : TxOutcome} {w : Option Window}
    (h : (s.rt i).role ≠ .claiming ∨ ∀ c, (s.rt i).claim = some c → c.frameMark = false) :
    claimOutcome s i o w = s := by
  rw [claimOutcome]
  split
  · rfl
  · next c claim =>
    refine if_neg fun ⟨role, marked⟩ => ?_
    rcases h with other | unmarked
    · exact other role
    · simp [unmarked c claim] at marked

section
variable {s : State} {i : EntryIx} {k : ClaimKind} (role : (s.rt i).role = .claiming)
  (claim : (s.rt i).claim = some ⟨k, true⟩)
include role claim

theorem claimOutcome_completed (w : Window) :
    claimOutcome s i .completed (some w) = claimCompleted (clearClaimMark s i k) i k w := by
  rw [claimOutcome, claim]
  exact if_pos ⟨role, rfl⟩

theorem claimOutcome_kept {o : TxOutcome} (h : o = .destroyed ∨ o = .outbid) (w : Option Window) :
    claimOutcome s i o w = keepClaim (clearClaimMark s i k) i := by
  rw [claimOutcome, claim]
  rcases h with rfl | rfl <;> exact if_pos ⟨role, rfl⟩

theorem claimOutcome_collided (w : Option Window) :
    claimOutcome s i .collided w = endClaim (clearClaimMark s i k) i .claimLost := by
  rw [claimOutcome, claim]
  exact if_pos ⟨role, rfl⟩

end

theorem claimOutcome_unheard_adopt {s : State} {i : EntryIx} (role : (s.rt i).role = .claiming)
    (claim : (s.rt i).claim = some ⟨.adopt, true⟩) (w : Option Window) :
    claimOutcome s i .unheard w = adopt (clearClaimMark s i .adopt) i := by
  rw [claimOutcome, claim]
  exact if_pos ⟨role, rfl⟩

theorem claimOutcome_unheard_normal {s : State} {i : EntryIx} (role : (s.rt i).role = .claiming)
    (claim : (s.rt i).claim = some ⟨.normal, true⟩) (w : Option Window) :
    claimOutcome s i .unheard w = keepClaim (clearClaimMark s i .normal) i := by
  rw [claimOutcome, claim]
  exact if_pos ⟨role, rfl⟩

/-! ### The outcomes of a YIELD frame (R119 to R121) -/

theorem yieldOutcome_other {s : State} {i : EntryIx} {o : TxOutcome} {w : Option Window}
    (other : (s.rt i).role ≠ .yielding) : yieldOutcome s i o w = s := by
  rw [yieldOutcome]
  split
  · rfl
  · exact if_neg other

/-- A kept YIELD waits for the same target, with its count. -/
theorem keepYield_of_yield {s : State} {i : EntryIx} {y : YieldPart} (part : (s.rt i).yield = some y) (n : Nat) :
    keepYield s i n = { s with entries := s.entries.set i ⟨s.cfg i, { s.rt i with
      yield := some ⟨y.target, n⟩, pending := { (s.rt i).pending with yield := true } }⟩ } := by
  rw [keepYield, State.modRt_eq, part]
  rfl

section
variable {s : State} {i : EntryIx} {y : YieldPart} (role : (s.rt i).role = .yielding)
  (part : (s.rt i).yield = some y)
include role part

/-- The slot of the target decides a completed YIELD. -/
theorem yieldOutcome_completed (w : Window) : yieldOutcome s i .completed (some w) =
    match w[y.target] with
    | .taken => completeYield s i y.target
    | .seen => failYield s i
    | .busy | .absent => retryYield s i (y.attempts + 1) := by
  rw [yieldOutcome, part]
  exact if_pos role

theorem yieldOutcome_retried {o : TxOutcome} (h : o = .unheard ∨ o = .destroyed) (w : Option Window) :
    yieldOutcome s i o w = retryYield s i (y.attempts + 1) := by
  rw [yieldOutcome, part]
  rcases h with rfl | rfl <;> exact if_pos role

theorem yieldOutcome_kept {o : TxOutcome} (h : o = .outbid ∨ o = .collided) (w : Option Window) :
    yieldOutcome s i o w = keepYield s i y.attempts := by
  rw [yieldOutcome, part]
  rcases h with rfl | rfl <;> exact if_pos role

end

/-- Settles O47: a claim's outcome is judged with the frame mark cleared already, which leaves the own number and the
recorded source; a yield's by the slot of its target. -/
theorem claimAndYieldOutcomesFollowTheTables : Obligations.ClaimAndYieldOutcomesFollowTheTables := by
  refine ⟨fun s i o w => ⟨claimOutcome_unmarked, yieldOutcome_other⟩, ?_, ?_⟩
  · intro s i kind p w params role claim u hu kept hkept
    obtain rfl : u = clearClaimMark s i kind := hu
    obtain rfl : kept = keepClaim (clearClaimMark s i kind) i :=
      hkept.trans (keepClaim_clearClaimMark s i kind).symm
    have own : (clearClaimMark s i kind).own = p.station :=
      (clearClaimMark_own s i kind).trans (State.own_of_params params)
    have completed := claimOutcome_completed role claim w
    rw [← own, completed]
    refine ⟨claimCompleted_taken, fun untaken => ⟨?_, ?_⟩, ?_, ?_, claimOutcome_kept role claim (.inl rfl) none,
      claimOutcome_kept role claim (.inr rfl) none, claimOutcome_collided role claim none⟩
    · rintro rfl
      exact claimCompleted_adopt untaken
    · rintro rfl src source
      rw [claimCompleted_normal untaken ((clearClaimMark_source s i .normal).trans source)]
      refine ⟨fun seen => if_pos seen, fun unanswered => if_neg ?_⟩
      rcases unanswered with slot | slot <;> simp [slot]
    · rintro rfl
      exact claimOutcome_unheard_adopt role claim (some w)
    · rintro rfl
      exact claimOutcome_unheard_normal role claim (some w)
  · intro s i y w role part kept hkept
    obtain rfl : kept = keepYield s i := funext fun k => (hkept k).trans (keepYield_of_yield part k).symm
    have completed := yieldOutcome_completed role part w
    have retried := fun o h => yieldOutcome_retried (o := o) role part h
    refine ⟨fun slot => ?_, fun slot => ?_, ?_, retried _ (.inl rfl) _, retried _ (.inr rfl) _,
      yieldOutcome_kept role part (.inl rfl) _, yieldOutcome_kept role part (.inr rfl) _⟩
    · rw [completed, slot]
      rfl
    · rw [completed, slot]
    · rintro (slot | slot) <;> rw [completed, slot] <;> rfl

end Sys2Proof.Machine
end

section
/-! SUPPORT. READ-ROSTER and STATUS (R140, R176, R186) and the attention line (R177). -/

namespace Sys2Proof.Machine

/-! ### The roster bytes as base-4 digits (R140) -/

theorem RosterState.code_lt (r : RosterState) : r.code < 4 := by cases r <;> decide

/-- A sum of multiples of the powers of 4, from the number it starts at. -/
theorem foldl_finRange_ofDigits (n : Nat) (f : Fin n → Nat) (acc k : Nat) :
    (List.finRange n).foldl (fun a i => a + f i * 4 ^ (i.val + k)) acc
      = acc + 4 ^ k * Nat.ofDigits 4 (List.ofFn f) := by
  induction n generalizing acc k with
  | zero => simp
  | succ n ih =>
    have next : ∀ i : Fin n, i.succ.val + k = i.val + (k + 1) := fun i => by rw [Fin.val_succ]; omega
    simp only [List.finRange_succ, List.foldl_cons, List.foldl_map, next, ih fun i => f i.succ, List.ofFn_succ,
      Nat.ofDigits_cons, Fin.val_zero, Nat.zero_add]
    ring

/-- A number whose base-4 digits are given has each of them at its place. -/
theorem ofDigits_digit {n : Nat} (f : Fin n → Nat) (small : ∀ i, f i < 4) (i : Fin n) :
    Nat.ofDigits 4 (List.ofFn f) / 4 ^ i.val % 4 = f i := by
  have digits : ∀ d ∈ List.ofFn f, d < 4 := by simpa [List.mem_ofFn] using small
  have here : (List.ofFn f).drop i.val = f i :: (List.ofFn f).drop (i.val + 1) := by
    rw [List.drop_eq_getElem_cons (by simp)]
    simp
  rw [Nat.ofDigits_div_pow_eq_ofDigits_drop _ (by decide) _ digits, here, Nat.ofDigits_cons]
  have := small i
  omega

/-- The four roster states in a byte, two bits each. -/
theorem byte_digit (n st : Nat) : (BitVec.ofNat 8 (n / 256 ^ (st / 4))).toNat / 4 ^ (st % 4) % 4 = n / 4 ^ st % 4 := by
  have whole : n / 256 ^ (st / 4) / 4 ^ (st % 4) = n / 4 ^ st := by
    rw [Nat.div_div_eq_div_mul, show 256 = 4 ^ 4 from rfl, ← pow_mul, ← pow_add, Nat.div_add_mod]
  rw [← whole, BitVec.toNat_ofNat]
  generalize n / 256 ^ (st / 4) = b
  have place : st % 4 < 4 := Nat.mod_lt _ (by decide)
  interval_cases st % 4 <;> omega

/-- READ-ROSTER's reply spells each station's state at its two bits. -/
theorem rosterReply_digit (s : State) (st : Station) :
    ((rosterReply s).getD (9 - st.val / 4) 0).toNat / 4 ^ (st.val % 4) % 4 = (s.record st).state.code := by
  obtain ⟨k, place, back, low⟩ : ∃ k, 9 - st.val / 4 = k + 2 ∧ 7 - k = st.val / 4 ∧ k < 8 :=
    ⟨7 - st.val / 4, by omega, by omega, by omega⟩
  have sum := foldl_finRange_ofDigits 32 (fun x => (s.record x).state.code) 0 0
  have byte : (rosterReply s).getD (9 - st.val / 4) 0 = BitVec.ofNat 8
      (Nat.ofDigits 4 (List.ofFn fun x => (s.record x).state.code) / 256 ^ (st.val / 4)) := by
    rw [pow_zero, Nat.one_mul, Nat.zero_add] at sum
    rw [rosterReply, rosterBytes, place, ← sum]
    simp [List.getD_eq_getElem?_getD, back, low]
  rw [byte, byte_digit, ofDigits_digit _ fun x => (s.record x).state.code_lt]

theorem attention_iff (s : State) : s.attention = true ↔ s.notices ≠ [] ∨ s.flags ≠ 0 := by
  simp [State.attention]

/-- Settles O6: the roster bytes are the base-256 digits of a number whose base-4 digits are the states. -/
theorem readRosterAndStatusReportTheStation : Obligations.ReadRosterAndStatusReportTheStation := by
  refine ⟨fun ops s => ⟨rosterReply s, rfl, ?_, rfl, ?_, fun st => ?_⟩, fun ops s => ⟨_, rfl, ?_⟩, attention_iff⟩
  · simp [rosterReply, rosterBytes]
  · cases h : s.params <;> simp [rosterReply, h]
  · rw [rosterReply_digit]
    cases (s.record st).state <;> rfl
  · rw [← List.countP_eq_length_filter]
    rfl

end Sys2Proof.Machine
end

section
/-! SUPPORT. What a posting leaves entry by entry (R168 to R170), and what the auto-pull requests of one orphaning leave
of the Pull Table (R98). -/

namespace Sys2Proof.Machine

/-! ### Entries that are left as they are, notices included -/

/-- Entry `i` is in `t` as in `s`, with the same notice records. -/
structure Untouched (s t : State) (i : EntryIx) : Prop where
  rt : t.rt i = s.rt i
  notices : (t.notices.filter fun n => decide (n.entry = i)) = s.notices.filter fun n => decide (n.entry = i)

theorem Untouched.refl (s : State) (i : EntryIx) : Untouched s s i := ⟨rfl, rfl⟩

theorem Untouched.trans {s t u : State} {i : EntryIx} (h : Untouched s t i) (h' : Untouched t u i) : Untouched s u i :=
  ⟨h'.rt.trans h.rt, h'.notices.trans h.notices⟩

/-- What an operation leaves of the entries other than its own, a fold of it leaves of the entries not in the list. -/
theorem untouched_foldl {op : State → EntryIx → State} {i : EntryIx} (h : ∀ s j, j ≠ i → Untouched s (op s j) i)
    {is : List EntryIx} (other : i ∉ is) (s : State) : Untouched s (is.foldl op s) i := by
  induction is generalizing s with
  | nil => exact .refl s i
  | cons j is ih =>
    obtain ⟨head, tail⟩ := not_or.1 (mt List.mem_cons.2 other)
    exact (h s j (Ne.symm head)).trans (ih tail _)

/-- Reasons for an entry wait in its own notice record or among its deferred reasons. -/
theorem Untouched.awaits {s t : State} {i : EntryIx} {rs : ReasonSet} (h : Untouched s t i) (waits : awaits s i rs) :
    awaits t i rs := by
  rcases waits with ⟨n, mem, entry, reasons⟩ | waits
  · have here : n ∈ s.notices.filter fun n => decide (n.entry = i) := List.mem_filter.2 ⟨mem, decide_eq_true entry⟩
    rw [← h.notices] at here
    exact .inl ⟨n, (List.mem_filter.1 here).1, entry, reasons⟩
  · exact .inr (h.rt ▸ waits)

theorem modRt_untouched (s : State) (f : Runtime → Runtime) {i j : EntryIx} (other : j ≠ i) :
    Untouched s (s.modRt j f) i := ⟨State.modRt_rt_ne s f other.symm, by rw [State.modRt_notices]⟩

/-! ### A posting, and the postings of one happening -/

theorem post_untouched (s : State) {i j : EntryIx} (rs : ReasonSet) (other : j ≠ i) : Untouched s (post s j rs) i := by
  have merged : ∀ l : List NoticeRecord,
      ((l.map fun n => if n.entry = j then { n with reasons := n.reasons ||| rs } else n).filter
        fun n => decide (n.entry = i)) = l.filter fun n => decide (n.entry = i) := by
    intro l
    induction l with
    | nil => rfl
    | cons n l ih =>
      by_cases h : n.entry = j
      · simp [h, other, ih]
      · simp [h, List.filter_cons, ih]
  unfold post
  split
  · exact .refl s i
  · split
    · exact ⟨rfl, merged s.notices⟩
    · split
      · exact modRt_untouched s _ other
      · split
        · exact ⟨rfl, by simp [other]⟩
        · have marked := modRt_untouched s (fun r => { r with deferred := some rs }) other
          exact ⟨(setFlag_rt _ _ _).trans marked.rt, marked.notices⟩

theorem awaits_post (s : State) (i : EntryIx) {rs : ReasonSet} (some_reason : rs ≠ 0) : awaits (post s i rs) i rs := by
  have kept : ∀ d : ReasonSet, (d ||| rs) &&& rs = rs := fun d => by
    ext k hk
    simp
    tauto
  unfold post
  rw [if_neg some_reason]
  split
  · next recorded =>
    obtain ⟨n, mem, entry⟩ := List.any_eq_true.1 recorded
    have entry := of_decide_eq_true entry
    exact .inl ⟨_, List.mem_map.2 ⟨n, mem, rfl⟩, by simp [entry], by simp [entry, kept]⟩
  · split
    · next d _ => exact .inr ⟨d ||| rs, by simp, kept d⟩
    · split
      · exact .inl ⟨⟨i, rs⟩, by simp, rfl, BitVec.and_self⟩
      · exact .inr ⟨rs, by simp, BitVec.and_self⟩

/-- Every posting of a happening waits for the host, each entry being posted for once. -/
theorem awaits_postAll {is : List EntryIx} (nodup : is.Nodup) {rs : ReasonSet} (some_reason : rs ≠ 0) (s : State)
    {i : EntryIx} (mem : i ∈ is) : awaits (is.foldl (fun x j => post x j rs) s) i rs := by
  induction is generalizing s with
  | nil => cases mem
  | cons j is ih =>
    obtain ⟨once, nodup⟩ := List.nodup_cons.1 nodup
    rcases List.mem_cons.1 mem with rfl | mem
    · exact (untouched_foldl (fun x k other => post_untouched x rs other) once _).awaits (awaits_post s i some_reason)
    · exact ih nodup _ mem

theorem postAll_rt (is : List EntryIx) (rs : ReasonSet) (s : State) (i : EntryIx) :
    (is.foldl (fun x j => post x j rs) s).rt i
      = { s.rt i with deferred := ((is.foldl (fun x j => post x j rs) s).rt i).deferred } := by
  induction is generalizing s with
  | nil => rfl
  | cons j is ih => rw [List.foldl_cons, ih, post_rt s j i]

/-! ### The Notice Queue of two states -/

/-- The Notice Queue holds the same in both states. -/
structure QueueAlike (s t : State) : Prop where
  notices : s.notices = t.notices
  flags : s.flags = t.flags
  deferred : ∀ i, (s.rt i).deferred = (t.rt i).deferred

theorem QueueAlike.modRt {s t : State} (h : QueueAlike s t) (i : EntryIx) (d : Option ReasonSet) :
    QueueAlike (s.modRt i fun r => { r with deferred := d }) (t.modRt i fun r => { r with deferred := d }) := by
  refine ⟨h.notices, h.flags, fun j => ?_⟩
  simp only [State.modRt_rt]
  split
  · rfl
  · exact h.deferred j

/-- What a posting does to the queue rests on the queue alone. -/
theorem QueueAlike.post {s t : State} (h : QueueAlike s t) (i : EntryIx) (rs : ReasonSet) :
    QueueAlike (post s i rs) (post t i rs) := by
  unfold Machine.post
  rw [h.notices, h.deferred i]
  by_cases none_posted : rs = 0
  · rwa [if_pos none_posted, if_pos none_posted]
  rw [if_neg none_posted, if_neg none_posted]
  by_cases recorded : (t.notices.any fun n => decide (n.entry = i)) = true
  · rw [if_pos recorded, if_pos recorded]
    exact ⟨rfl, h.flags, h.deferred⟩
  rw [if_neg recorded, if_neg recorded]
  cases (t.rt i).deferred with
  | some d => exact h.modRt i _
  | none =>
    by_cases room : t.notices.length < 32
    · simp only [if_pos room]
      exact ⟨rfl, h.flags, h.deferred⟩
    · simp only [if_neg room]
      have marked := h.modRt i (some rs)
      exact ⟨marked.notices, congrArg (· ||| StationNotice.deferred.alone) marked.flags, fun j => by
        simpa using marked.deferred j⟩

theorem QueueAlike.postAll {s t : State} (h : QueueAlike s t) (is : List EntryIx) (rs : ReasonSet) :
    QueueAlike (is.foldl (fun x i => Machine.post x i rs) s) (is.foldl (fun x i => Machine.post x i rs) t) := by
  induction is generalizing s t with
  | nil => exact h
  | cons i is ih => exact ih (h.post i rs)

/-! ### The auto-pull requests of one orphaning (R98) -/

/-- A record as it is added to the Pull Table (R95). -/
def waitingPull (i : EntryIx) : PullRecord := ⟨i, .waiting, 0, none, false, false⟩

/-- No record of the Pull Table is for entry `i`. -/
abbrev unrecorded (s : State) (i : EntryIx) : Prop := ∀ p ∈ s.pulls, p.entry ≠ i

/-- A request that met no record: it has got one with PULL raised, or with all 8 in use the pull-wanted mark. -/
def pullAsked (s t : State) (i : EntryIx) : Prop :=
  ((∃ p ∈ t.pulls, p.entry = i) ∧ (t.rt i).pending.pull = true ∧ (t.rt i).pullWanted = (s.rt i).pullWanted) ∨
  (unrecorded t i ∧ 8 ≤ t.pulls.length ∧ (t.rt i).pullWanted = true ∧ (t.rt i).pending.pull = (s.rt i).pending.pull)

/-- What the auto-pull requests `is` leave of the Pull Table and of the marks of the entries. -/
structure AutoPulled (s t : State) (is : List EntryIx) : Prop where
  pulls : ∃ added, t.pulls = s.pulls ++ added ∧ (added = [] ∨ t.pulls.length ≤ 8) ∧ (added.map (·.entry)).Nodup ∧
    ∀ p ∈ added, p.entry ∈ is ∧ unrecorded s p.entry ∧ p = waitingPull p.entry
  asked : ∀ i ∈ is, unrecorded s i → pullAsked s t i
  others : ∀ i, ¬ (i ∈ is ∧ unrecorded s i) →
    (t.rt i).pullWanted = (s.rt i).pullWanted ∧ (t.rt i).pending.pull = (s.rt i).pending.pull

theorem autoPulled_nil (s : State) : AutoPulled s s [] where
  pulls := ⟨[], by simp⟩
  asked := by simp
  others := fun _ _ => ⟨rfl, rfl⟩

section
variable {s t : State} {a : EntryIx} {is : List EntryIx}

/-- A request that finds a record merges into it. -/
theorem AutoPulled.cons_recorded (h : AutoPulled s t is) (recorded : ∃ p ∈ s.pulls, p.entry = a) :
    AutoPulled s t (a :: is) := by
  have not_asked : ¬ unrecorded s a := fun free => recorded.elim fun p hp => free p hp.1 hp.2
  have same : ∀ i, unrecorded s i → (i ∈ a :: is ↔ i ∈ is) := fun i free => by
    have : i ≠ a := fun e => not_asked (e ▸ free)
    simp [this]
  obtain ⟨added, pulls, room, nodup, each⟩ := h.pulls
  exact ⟨⟨added, pulls, room, nodup, fun p hp => ⟨List.mem_cons_of_mem _ (each p hp).1, (each p hp).2⟩⟩,
    fun i mem free => h.asked i ((same i free).1 mem) free,
    fun i idle => h.others i fun ⟨mem, free⟩ => idle ⟨(same i free).2 mem, free⟩⟩

/-- After the requests that follow, the record of an entry none of them is for is found exactly as before. -/
theorem AutoPulled.unrecorded_iff (h : AutoPulled s t is) (other : a ∉ is) : unrecorded t a ↔ unrecorded s a := by
  obtain ⟨added, pulls, -, -, each⟩ := h.pulls
  rw [unrecorded, pulls]
  refine ⟨fun free p hp => free p (List.mem_append_left _ hp), fun free p hp => ?_⟩
  rcases List.mem_append.1 hp with hp | hp
  · exact free p hp
  · exact fun e => other (e ▸ (each p hp).1)

/-- A request that finds no record and a free one is followed by the others. -/
theorem AutoPulled.cons_added (h : AutoPulled (addPull s a) t is) (once : a ∉ is) (free : unrecorded s a)
    (room : s.pulls.length < 8) : AutoPulled s t (a :: is) := by
  have table : (addPull s a).pulls = s.pulls ++ [waitingPull a] := rfl
  have others : ∀ i, i ≠ a → (addPull s a).rt i = s.rt i := fun i hi => State.modRt_rt_ne _ _ hi
  have own : (addPull s a).rt a = { s.rt a with pending := { (s.rt a).pending with pull := true } } :=
    State.modRt_rt_self _ _ _
  have same : ∀ i, i ≠ a → (unrecorded (addPull s a) i ↔ unrecorded s i) := fun i hi => by
    simp [unrecorded, or_imp, forall_and, hi.symm]
  obtain ⟨added, pulls, full, nodup, each⟩ := h.pulls
  have total : t.pulls = s.pulls ++ waitingPull a :: added := by rw [pulls, table, List.append_assoc]; rfl
  have fresh : ∀ p ∈ added, p.entry ≠ a := fun p hp e => once (e ▸ (each p hp).1)
  have marks := h.others a fun hm => once hm.1
  refine ⟨⟨waitingPull a :: added, total, .inr ?_, ?_, ?_⟩, ?_, ?_⟩
  · rcases full with rfl | full
    · simp [total]; omega
    · exact full
  · exact List.nodup_cons.2 ⟨fun hm => by
      obtain ⟨p, hp, e⟩ := List.mem_map.1 hm
      exact fresh p hp e, nodup⟩
  · rintro p (_ | ⟨_, hp⟩)
    · exact ⟨List.mem_cons_self, free, rfl⟩
    · exact ⟨List.mem_cons_of_mem _ (each p hp).1, (same _ (fresh p hp)).1 (each p hp).2.1, (each p hp).2.2⟩
  · intro i mem hfree
    by_cases hi : i = a
    · subst hi
      rw [own] at marks
      exact .inl ⟨⟨waitingPull i, by simp [total], rfl⟩, marks.2, marks.1⟩
    · have asked := h.asked i (List.mem_of_ne_of_mem hi mem) ((same i hi).2 hfree)
      rwa [pullAsked, others i hi] at asked
  · intro i idle
    have hi : i ≠ a := fun e => idle ⟨e ▸ List.mem_cons_self, e ▸ free⟩
    rw [← others i hi]
    exact h.others i fun ⟨mem, hfree⟩ => idle ⟨List.mem_cons_of_mem _ mem, (same i hi).1 hfree⟩

/-- A request that finds no record and none free is followed by the others. -/
theorem AutoPulled.cons_wanted (h : AutoPulled (s.modRt a fun r => { r with pullWanted := true }) t is) (once : a ∉ is)
    (free : unrecorded s a) (full : 8 ≤ s.pulls.length) : AutoPulled s t (a :: is) := by
  have others : ∀ i, i ≠ a → (s.modRt a fun r => { r with pullWanted := true }).rt i = s.rt i :=
    fun i hi => State.modRt_rt_ne _ _ hi
  have marks := h.others a fun hm => once hm.1
  obtain ⟨added, pulls, room, nodup, each⟩ := h.pulls
  refine ⟨⟨added, pulls, room, nodup, fun p hp => ⟨List.mem_cons_of_mem _ (each p hp).1, (each p hp).2⟩⟩, ?_, ?_⟩
  · intro i mem hfree
    by_cases hi : i = a
    · subst hi
      rw [State.modRt_rt_self] at marks
      have long : 8 ≤ t.pulls.length := by
        rw [pulls, List.length_append]
        exact full.trans (Nat.le_add_right _ _)
      exact .inr ⟨(h.unrecorded_iff once).2 free, long, marks⟩
    · have asked := h.asked i (List.mem_of_ne_of_mem hi mem) hfree
      rwa [pullAsked, others i hi] at asked
  · intro i idle
    have hi : i ≠ a := fun e => idle ⟨e ▸ List.mem_cons_self, e ▸ free⟩
    rw [← others i hi]
    exact h.others i fun ⟨mem, hfree⟩ => idle ⟨List.mem_cons_of_mem _ mem, hfree⟩

end

/-- The requests taken one after the other, whatever their order. -/
theorem autoPulled_foldl {is : List EntryIx} (nodup : is.Nodup) {s : State}
    (role : ∀ i ∈ is, (s.rt i).role = .subscriber) : AutoPulled s (is.foldl takeAutoPull s) is := by
  induction is generalizing s with
  | nil => exact autoPulled_nil s
  | cons a is ih =>
    obtain ⟨once, nodup⟩ := List.nodup_cons.1 nodup
    have rest := ih nodup (s := takeAutoPull s a) fun i hi => by
      rw [takeAutoPull_rt]
      exact role i (List.mem_cons_of_mem _ hi)
    rw [List.foldl_cons]
    by_cases free : unrecorded s a
    · rw [takeAutoPull_unrecorded (role a List.mem_cons_self) free] at rest ⊢
      split at rest
      · next room =>
        rw [if_pos room]
        exact rest.cons_added once free room
      · next full =>
        rw [if_neg full]
        exact rest.cons_wanted once free (by omega)
    · have recorded : ∃ p ∈ s.pulls, p.entry = a := by simpa [unrecorded] using free
      rw [takeAutoPull_idle (.inr recorded)] at rest ⊢
      exact rest.cons_recorded recorded

theorem AutoPulled.perm {s t : State} {is js : List EntryIx} (h : AutoPulled s t is) (perm : is.Perm js) :
    AutoPulled s t js := by
  obtain ⟨added, pulls, room, nodup, each⟩ := h.pulls
  exact ⟨⟨added, pulls, room, nodup, fun p hp => ⟨perm.mem_iff.1 (each p hp).1, (each p hp).2⟩⟩,
    fun i mem => h.asked i (perm.mem_iff.2 mem),
    fun i idle => h.others i fun ⟨mem, free⟩ => idle ⟨perm.mem_iff.1 mem, free⟩⟩

/-- What is asserted of the Pull Table holds of any order of the requests, and so of the one that is drawn. -/
theorem autoPulled_takeAutoPulls {is : List EntryIx} (nodup : is.Nodup) {s : State}
    (role : ∀ i ∈ is, (s.rt i).role = .subscriber) : AutoPulled s (takeAutoPulls s is) is := by
  unfold takeAutoPulls
  split
  · exact autoPulled_foldl nodup role
  · have perm := List.perm_insertionSort
      (fun a b => Config.autoPullRank s.draws a ≤ Config.autoPullRank s.draws b) is
    have drawn := autoPulled_foldl (perm.nodup_iff.2 nodup) (s := { s with draws := s.draws + 1 })
      fun i hi => role i (perm.mem_iff.1 hi)
    exact AutoPulled.perm ⟨drawn.pulls, drawn.asked, drawn.others⟩ perm

theorem takeAutoPulls_rt (s : State) (is : List EntryIx) (i : EntryIx) :
    (takeAutoPulls s is).rt i = { s.rt i with
      pullWanted := ((takeAutoPulls s is).rt i).pullWanted
      pending := { (s.rt i).pending with pull := ((takeAutoPulls s is).rt i).pending.pull } } := by
  have each : ∀ (l : List EntryIx) (s : State), (l.foldl takeAutoPull s).rt i = { s.rt i with
      pullWanted := ((l.foldl takeAutoPull s).rt i).pullWanted
      pending := { (s.rt i).pending with pull := ((l.foldl takeAutoPull s).rt i).pending.pull } } := by
    intro l
    induction l with
    | nil => exact fun _ => rfl
    | cons a l ih =>
      intro s
      rw [List.foldl_cons, ih, takeAutoPull_rt s a i]
  unfold takeAutoPulls
  split
  · exact each is s
  · exact each _ { s with draws := s.draws + 1 }

end Sys2Proof.Machine
end

section
/-! SUPPORT. The orphaning of a station and the loss report for it (R121, R134, R136), entry by entry. -/

namespace Sys2Proof.Machine

/-! ### The orphaning (R134) -/

/-- R134's three conditions. -/
theorem orphanHits_iff (st : Station) (r : Runtime) : orphanHits st r = true ↔
    (r.role = .subscriber ∨ r.role = .claiming) ∧ (r.mirror = some .fresh ∨ r.mirror = some .stale) ∧
      r.source.map (·.station) = some st := by
  simp only [orphanHits, Bool.and_eq_true, Bool.or_eq_true, decide_eq_true_eq, isMirror_iff, and_assoc]

/-- The entries an orphaning reaches, in ascending index. -/
def orphanedEntries (s : State) (st : Station) : List EntryIx := entriesWhere fun i => orphanHits st (s.rt i)

/-- The reached entries ORPHANED, before anything is posted. -/
def markOrphaned (s : State) (st : Station) : State :=
  s.mapRt fun _ _ r => if orphanHits st r then orphanRuntime r else r

/-- The orphaning up to its postings. -/
def orphanPosted (s : State) (st : Station) : State :=
  (orphanedEntries s st).foldl (fun x i => post x i Reason.orphaned.alone) (markOrphaned s st)

/-- The entries whose auto-pull requests go with an orphaning. -/
def orphanAsks (s : State) (st : Station) : List EntryIx :=
  (orphanedEntries s st).filter fun i => decide (((orphanPosted s st).rt i).role = .subscriber)
    && ((orphanPosted s st).cfg i).autoPull

theorem orphan_eq (s : State) (st : Station) : orphan s st = takeAutoPulls (orphanPosted s st) (orphanAsks s st) := rfl

section
variable (s : State) (st : Station) {i : EntryIx}

theorem nodup_entriesWhere (p : EntryIx → Bool) : (entriesWhere p).Nodup := (List.nodup_finRange 128).filter _

theorem mem_entriesWhere {p : EntryIx → Bool} : i ∈ entriesWhere p ↔ p i = true := by
  simp [entriesWhere]

theorem markOrphaned_notices : (markOrphaned s st).notices = s.notices := State.mapRt_notices ..

theorem orphanPosted_rt (i : EntryIx) : (orphanPosted s st).rt i =
    { (if orphanHits st (s.rt i) then orphanRuntime (s.rt i) else s.rt i) with
      deferred := ((orphanPosted s st).rt i).deferred } := by
  rw [orphanPosted, postAll_rt, markOrphaned, State.mapRt_rt]

theorem orphanPosted_cfg (i : EntryIx) : (orphanPosted s st).cfg i = s.cfg i := by
  rw [orphanPosted, postAll_keeps (·.cfg i) _ fun x j => post_cfg x j _ i, markOrphaned, State.mapRt_cfg]

theorem orphanPosted_pulls : (orphanPosted s st).pulls = s.pulls := by
  rw [orphanPosted, postAll_keeps (·.pulls) _ fun x j => post_pulls x j _, markOrphaned, State.mapRt_pulls]

theorem orphanPosted_role (i : EntryIx) : ((orphanPosted s st).rt i).role = (s.rt i).role := by
  rw [orphanPosted_rt]
  dsimp only
  split <;> rfl

theorem mem_orphanAsks : i ∈ orphanAsks s st ↔
    orphanHits st (s.rt i) = true ∧ (s.rt i).role = .subscriber ∧ (s.cfg i).autoPull = true := by
  simp [orphanAsks, orphanedEntries, mem_entriesWhere, orphanPosted_role, orphanPosted_cfg]

theorem autoPulled_orphan : AutoPulled (orphanPosted s st) (orphan s st) (orphanAsks s st) := by
  rw [orphan_eq]
  refine autoPulled_takeAutoPulls ((nodup_entriesWhere _).filter _) fun i hi => ?_
  rw [orphanPosted_role]
  exact ((mem_orphanAsks s st).1 hi).2.1

/-- The queue is what the postings leave of the queue before. -/
theorem orphan_queue : QueueAlike (orphan s st)
    ((orphanedEntries s st).foldl (fun x i => post x i Reason.orphaned.alone) s) := by
  have marked : QueueAlike (markOrphaned s st) s :=
    ⟨markOrphaned_notices s st, State.mapRt_flags .., fun i => by
      rw [markOrphaned, State.mapRt_rt]
      split <;> rfl⟩
  have posted : QueueAlike (orphanPosted s st) _ := marked.postAll (orphanedEntries s st) Reason.orphaned.alone
  rw [orphan_eq]
  exact ⟨(takeAutoPulls_notices _ _).trans posted.notices, (takeAutoPulls_flags _ _).trans posted.flags,
    fun i => by rw [takeAutoPulls_rt]; exact posted.deferred i⟩

/-- A reached entry, and the reasons the host has still to collect for it. -/
theorem orphan_reached (hit : orphanHits st (s.rt i) = true) :
    (orphan s st).rt i = { orphanRuntime (s.rt i) with
      deferred := ((orphan s st).rt i).deferred, pullWanted := ((orphan s st).rt i).pullWanted
      pending := { (s.rt i).pending with pull := ((orphan s st).rt i).pending.pull } } ∧
    awaits (orphan s st) i Reason.orphaned.alone := by
  have posted : awaits (orphanPosted s st) i Reason.orphaned.alone :=
    awaits_postAll (nodup_entriesWhere _) (by decide) _ (mem_entriesWhere.2 hit)
  rw [orphan_eq]
  refine ⟨?_, ?_⟩
  · rw [takeAutoPulls_rt, orphanPosted_rt, if_pos hit]
    rfl
  · rw [awaits, takeAutoPulls_notices, takeAutoPulls_rt]
    exact posted

theorem orphan_untouched (missed : orphanHits st (s.rt i) = false) : Untouched s (orphan s st) i := by
  have unposted : Untouched (markOrphaned s st) (orphanPosted s st) i :=
    untouched_foldl (fun x j other => post_untouched x _ other) (by simp [orphanedEntries, mem_entriesWhere, missed]) _
  have unmarked : (markOrphaned s st).rt i = s.rt i := by simp [markOrphaned, missed]
  have idle := (autoPulled_orphan s st).others i fun asked => by
    have := ((mem_orphanAsks s st).1 asked.1).1
    simp [missed] at this
  have rt : (orphan s st).rt i = (orphanPosted s st).rt i := by
    rw [orphan_eq] at idle ⊢
    rw [takeAutoPulls_rt, idle.1, idle.2]
  refine ⟨rt.trans (unposted.rt.trans unmarked), ?_⟩
  rw [orphan_eq, takeAutoPulls_notices, unposted.notices, markOrphaned_notices]

end

/-! ### The fields an orphaning or a loss report may change -/

theorem State.eq_of_lossFields {s t : State} (liu : t.liu = s.liu) (verdict : t.verdict = s.verdict)
    (announce : t.announce = s.announce) (inFlight : t.inFlight = s.inFlight)
    (announceTimer : t.announceTimer = s.announceTimer) (fcu : t.fcu = s.fcu) (lifecycle : t.lifecycle = s.lifecycle)
    (params : t.params = s.params) (time : t.time = s.time) (reply : t.reply = s.reply)
    (shiftedOut : t.shiftedOut = s.shiftedOut) (pending : t.pending = s.pending) :
    t = { s with entries := t.entries, notices := t.notices, flags := t.flags, pulls := t.pulls, roster := t.roster
                 draws := t.draws } := by
  rw [← liu, ← verdict, ← announce, ← inFlight, ← announceTimer, ← fcu, ← lifecycle, ← params, ← time, ← reply,
    ← shiftedOut, ← pending]

/-- The requests met, as the Pull Table of the state before the orphaning tells. -/
theorem orphan_asked (s : State) (st : Station) (i : EntryIx) (hit : orphanHits st (s.rt i) = true) :
    if (s.rt i).role = .subscriber ∧ (s.cfg i).autoPull = true ∧ unrecorded s i then pullAsked s (orphan s st) i
    else ((orphan s st).rt i).pullWanted = (s.rt i).pullWanted ∧
      ((orphan s st).rt i).pending.pull = (s.rt i).pending.pull := by
  have pulled := autoPulled_orphan s st
  have marks : ((orphanPosted s st).rt i).pullWanted = (s.rt i).pullWanted ∧
      ((orphanPosted s st).rt i).pending.pull = (s.rt i).pending.pull := by
    rw [orphanPosted_rt, if_pos hit]
    exact ⟨rfl, rfl⟩
  have table : unrecorded (orphanPosted s st) i ↔ unrecorded s i := by rw [unrecorded, orphanPosted_pulls]
  split
  · next asks =>
    obtain ⟨role, auto, free⟩ := asks
    have asked := pulled.asked i ((mem_orphanAsks s st).2 ⟨hit, role, auto⟩) (table.2 free)
    rwa [pullAsked, marks.1, marks.2] at asked
  · next quiet =>
    rw [← marks.1, ← marks.2]
    refine pulled.others i fun ⟨asks, free⟩ => quiet ?_
    obtain ⟨-, role, auto⟩ := (mem_orphanAsks s st).1 asks
    exact ⟨role, auto, table.1 free⟩

theorem orphan_pulls (s : State) (st : Station) : ∃ added, (orphan s st).pulls = s.pulls ++ added ∧
    (added = [] ∨ (orphan s st).pulls.length ≤ 8) ∧ (added.map (·.entry)).Nodup ∧
    ∀ p ∈ added, orphanHits st (s.rt p.entry) = true ∧ (s.rt p.entry).role = .subscriber ∧
      (s.cfg p.entry).autoPull = true ∧ unrecorded s p.entry ∧ p = waitingPull p.entry := by
  obtain ⟨added, pulls, room, nodup, each⟩ := (autoPulled_orphan s st).pulls
  rw [orphanPosted_pulls] at pulls
  refine ⟨added, pulls, room, nodup, fun p hp => ?_⟩
  obtain ⟨asks, free, record⟩ := each p hp
  obtain ⟨hit, role, auto⟩ := (mem_orphanAsks s st).1 asks
  rw [unrecorded, orphanPosted_pulls] at free
  exact ⟨hit, role, auto, free, record⟩

/-- Settles O28: the orphaning marks the reached entries, posts for them, and hands their auto-pull requests over; each
part is read entry by entry. -/
theorem orphaningReachesTheMirrorsOfAStation : Obligations.OrphaningReachesTheMirrorsOfAStation := by
  rintro s st t rfl hit hhit
  obtain rfl : hit = fun i => orphanHits st (s.rt i) :=
    funext fun i => Bool.eq_iff_iff.2 ((hhit i).trans (orphanHits_iff st _).symm)
  refine ⟨?_, ?_, orphan_pulls s st, fun i => ⟨orphan_cfg s st i, ?_⟩⟩
  · have fields : orphan s st = _ := State.eq_of_lossFields (orphan_liu s st) (orphan_verdict s st)
      (orphan_announce s st) (orphan_inFlight s st) (orphan_announceTimer s st) (orphan_fcu s st)
      (orphan_lifecycle s st) (orphan_params s st) (orphan_time s st) (orphan_reply s st) (orphan_shiftedOut s st)
      (orphan_pending s st)
    rwa [orphan_roster] at fields
  · rintro u rfl
    have queue := orphan_queue s st
    exact ⟨queue.notices, queue.flags, queue.deferred⟩
  · split
    · next h =>
      obtain ⟨rt, waits⟩ := orphan_reached s st h
      exact ⟨rt, waits, orphan_asked s st i h⟩
    · next h =>
      have kept := orphan_untouched s st (Bool.eq_false_iff.2 h)
      exact ⟨kept.rt, kept.notices⟩

end Sys2Proof.Machine
end

section
/-! SUPPORT. The loss report beside the orphaning, in either order (R136, R170), the silence timer (R132), and what the
evidence of a completed frame and an announce do to the roster (R131, R133). -/

namespace Sys2Proof.Machine

/-! ### The loss report (R121, R136) -/

theorem yieldsTo_iff (st : Station) (r : Runtime) :
    yieldsTo st r = true ↔ r.role = .yielding ∧ r.yield.map (·.target) = some st := by
  simp [yieldsTo]

/-- The runtime part of an entry whose yield has failed, before its posting. -/
def failedYield (s : State) (i : EntryIx) : Runtime :=
  { s.rt i with
    role := .publisher, yield := none, periodTimer := periodOnEntry s (s.cfg i)
    pending := { (s.rt i).pending with publish := some 0, yield := false } }

theorem failYield_self (s : State) (i : EntryIx) :
    (failYield s i).rt i = { failedYield s i with deferred := ((failYield s i).rt i).deferred } ∧
      awaits (failYield s i) i Reason.yieldFailed.alone := by
  refine ⟨?_, awaits_post _ i (by decide)⟩
  rw [failYield, post_rt, State.modRt_rt_self]
  rfl

theorem failYield_untouched (s : State) (j : EntryIx) {i : EntryIx} (other : j ≠ i) : Untouched s (failYield s j) i :=
  (modRt_untouched s _ other).trans (post_untouched _ _ other)

/-- The failed runtime part rests on the entry, station time and the lifecycle. -/
theorem failedYield_congr {s t : State} {i : EntryIx} (rt : t.rt i = s.rt i) (cfg : t.cfg i = s.cfg i)
    (lifecycle : t.lifecycle = s.lifecycle) (time : t.time = s.time) : failedYield t i = failedYield s i := by
  simp only [failedYield, periodOnEntry, rt, cfg, lifecycle, time]

theorem foldl_failYield {is : List EntryIx} (nodup : is.Nodup) (s : State) {i : EntryIx} (mem : i ∈ is) :
    (is.foldl failYield s).rt i = { failedYield s i with deferred := ((is.foldl failYield s).rt i).deferred } ∧
      awaits (is.foldl failYield s) i Reason.yieldFailed.alone := by
  induction is generalizing s with
  | nil => cases mem
  | cons j is ih =>
    obtain ⟨once, nodup⟩ := List.nodup_cons.1 nodup
    rw [List.foldl_cons]
    by_cases hji : j = i
    · subst hji
      have later := untouched_foldl (fun x k other => failYield_untouched x k other) once (failYield s j)
      obtain ⟨rt, waits⟩ := failYield_self s j
      exact ⟨by rw [later.rt]; exact rt, later.awaits waits⟩
    · obtain ⟨rt, waits⟩ := ih nodup (failYield s j) (List.mem_of_ne_of_mem (Ne.symm hji) mem)
      rw [failedYield_congr (failYield_untouched s j hji).rt (failYield_cfg s j i) (failYield_lifecycle s j)
        (failYield_time s j)] at rt
      exact ⟨rt, waits⟩

section
variable (s : State) (st : Station) {i : EntryIx}

theorem reportLoss_yielding (yields : yieldsTo st (s.rt i) = true) :
    (reportLoss s st).rt i = { failedYield s i with deferred := ((reportLoss s st).rt i).deferred } ∧
      awaits (reportLoss s st) i Reason.yieldFailed.alone :=
  foldl_failYield (nodup_entriesWhere _) s (mem_entriesWhere.2 yields)

theorem reportLoss_untouched (kept : yieldsTo st (s.rt i) = false) : Untouched s (reportLoss s st) i :=
  untouched_foldl (fun x j other => failYield_untouched x j other) (by simp [mem_entriesWhere, kept]) s

/-! ### Either order (R170; log entry 6) -/

/-- An orphaning reaches mirrors alone, and a loss report entries that yield. -/
theorem not_yieldsTo_of_orphanHits {r : Runtime} {x : Station} (hit : orphanHits st r = true) :
    yieldsTo x r = false := by
  obtain ⟨role | role, -⟩ := (orphanHits_iff st r).1 hit <;> simp [yieldsTo, role]

theorem not_orphanHits_of_role {r : Runtime} (role : r.role = .publisher ∨ r.role = .yielding) :
    orphanHits st r = false := by
  rcases role with role | role <;> simp [orphanHits, role, Role.isMirror]

/-- An orphaning leaves the yields as they are. -/
theorem orphan_yieldsTo (x : Station) (i : EntryIx) : yieldsTo x ((orphan s st).rt i) = yieldsTo x (s.rt i) := by
  cases hit : orphanHits st (s.rt i) with
  | true =>
    rw [(orphan_reached s st hit).1]
    rfl
  | false => rw [(orphan_untouched s st hit).rt]

/-- A loss report leaves the mirrors as they are. -/
theorem reportLoss_orphanHits (x : Station) (i : EntryIx) :
    orphanHits x ((reportLoss s st).rt i) = orphanHits x (s.rt i) := by
  cases yields : yieldsTo st (s.rt i) with
  | true =>
    have yielding := ((yieldsTo_iff st _).1 yields).1
    rw [not_orphanHits_of_role x (.inr yielding), (reportLoss_yielding s st yields).1]
    exact not_orphanHits_of_role x (.inl rfl)
  | false => rw [(reportLoss_untouched s st yields).rt]

/-- What the orphaning and the loss report for a station leave of an entry, whichever is taken first. -/
structure LossOf (t : State) (i : EntryIx) : Prop where
  orphaned : orphanHits st (s.rt i) = true →
    (t.rt i).mirror = some .orphaned ∧ (t.rt i).freshTimer = none ∧ awaits t i Reason.orphaned.alone
  failed : yieldsTo st (s.rt i) = true →
    t.rt i = { failedYield s i with deferred := (t.rt i).deferred } ∧ awaits t i Reason.yieldFailed.alone
  untouched : orphanHits st (s.rt i) = false → yieldsTo st (s.rt i) = false → Untouched s t i

theorem lossOf_orphan_first (i : EntryIx) : LossOf s st (reportLoss (orphan s st) st) i where
  orphaned hit := by
    have kept := reportLoss_untouched (orphan s st) st
      ((orphan_yieldsTo s st st i).trans (not_yieldsTo_of_orphanHits st hit))
    obtain ⟨rt, waits⟩ := orphan_reached s st hit
    rw [kept.rt, rt]
    exact ⟨rfl, rfl, kept.awaits waits⟩
  failed yields := by
    have kept := orphan_untouched s st (not_orphanHits_of_role st (.inr ((yieldsTo_iff st _).1 yields).1))
    have failed := reportLoss_yielding (orphan s st) st ((orphan_yieldsTo s st st i).trans yields)
    rwa [failedYield_congr kept.rt (orphan_cfg s st i) (orphan_lifecycle s st) (orphan_time s st)] at failed
  untouched missed kept :=
    (orphan_untouched s st missed).trans (reportLoss_untouched _ st ((orphan_yieldsTo s st st i).trans kept))

theorem lossOf_report_first (i : EntryIx) : LossOf s st (orphan (reportLoss s st) st) i where
  orphaned hit := by
    obtain ⟨rt, waits⟩ := orphan_reached (reportLoss s st) st ((reportLoss_orphanHits s st st i).trans hit)
    rw [rt]
    exact ⟨rfl, rfl, waits⟩
  failed yields := by
    obtain ⟨rt, waits⟩ := reportLoss_yielding s st yields
    have kept := orphan_untouched (reportLoss s st) st ((reportLoss_orphanHits s st st i).trans
      (not_orphanHits_of_role st (.inr ((yieldsTo_iff st _).1 yields).1)))
    exact ⟨by rw [kept.rt]; exact rt, kept.awaits waits⟩
  untouched missed kept :=
    (reportLoss_untouched s st kept).trans (orphan_untouched _ st ((reportLoss_orphanHits s st st i).trans missed))

/-- The Pull Table after both, whichever is taken first: the loss report neither adds records nor changes mirrors. -/
theorem pulls_of_loss {t : State} (ht : t = reportLoss (orphan s st) st ∨ t = orphan (reportLoss s st) st) :
    ∃ added, t.pulls = s.pulls ++ added ∧ ∀ p ∈ added, orphanHits st (s.rt p.entry) = true ∧
      (s.rt p.entry).role = .subscriber ∧ (s.cfg p.entry).autoPull = true ∧ p = waitingPull p.entry := by
  rcases ht with rfl | rfl
  · obtain ⟨added, pulls, -, -, each⟩ := orphan_pulls s st
    refine ⟨added, (reportLoss_pulls _ st).trans pulls, fun p hp => ?_⟩
    obtain ⟨hit, role, auto, -, record⟩ := each p hp
    exact ⟨hit, role, auto, record⟩
  · obtain ⟨added, pulls, -, -, each⟩ := orphan_pulls (reportLoss s st) st
    refine ⟨added, pulls.trans (by rw [reportLoss_pulls]), fun p hp => ?_⟩
    obtain ⟨hit, role, auto, -, record⟩ := each p hp
    rw [reportLoss_orphanHits] at hit
    rw [(reportLoss_untouched s st (not_yieldsTo_of_orphanHits st hit)).rt] at role
    rw [reportLoss_cfg] at auto
    exact ⟨hit, role, auto, record⟩

/-- The loss report after the orphaning fails the yields of the state before. -/
theorem reportLoss_orphan : reportLoss (orphan s st) st =
    (entriesWhere fun i => yieldsTo st (s.rt i)).foldl failYield (orphan s st) := by
  simp only [reportLoss, orphan_yieldsTo]

/-- The orphaning with the loss report: one of the two first, a draw being taken where both have postings. -/
theorem orphanAndReport_cases : ∃ d : Nat, (d = s.draws ∨ d = s.draws + 1) ∧
    (orphanAndReport s st = reportLoss (orphan { s with draws := d } st) st ∨
      orphanAndReport s st = orphan (reportLoss { s with draws := d } st) st) := by
  unfold orphanAndReport
  split
  · refine ⟨s.draws + 1, .inr rfl, ?_⟩
    dsimp only
    split
    · exact .inr rfl
    · exact .inl rfl
  · exact ⟨s.draws, .inl rfl, .inl rfl⟩

end

/-! ### The silence timer (R132) -/

theorem setRecord_record (s : State) (st : Station) (r : RosterRecord) (x : Station) :
    (setRecord s st r).record x = if x = st ∧ x ≠ s.own then r else s.record x := State.mapRoster_record ..

theorem setRecord_other {s : State} {st : Station} (other : st ≠ s.own) (r : RosterRecord) :
    setRecord s st r = { s with roster := s.roster.set st r } := by
  have cond : (fun x old => if x = st ∧ x ≠ s.own then r else old) = fun x old => if x = st then r else old := by
    funext x old
    by_cases h : x = st
    · simp [h, other]
    · simp [h]
  rw [setRecord, cond, mapRoster_own]

/-- Settles O29: an orphaning reaches mirrors and a loss report entries that yield, so neither changes what the other
reaches, and every entry is left the same in either order. -/
theorem silenceTimerLosesTheStation : Obligations.SilenceTimerLosesTheStation := by
  intro s st r timer other passed hit yields hhit hyields
  obtain rfl : hit = fun i => orphanHits st (s.rt i) :=
    funext fun i => Bool.eq_iff_iff.2 ((hhit i).trans (orphanHits_iff st _).symm)
  obtain rfl : yields = fun i => yieldsTo st (s.rt i) :=
    funext fun i => Bool.eq_iff_iff.2 ((hyields i).trans (yieldsTo_iff st _).symm)
  have due : timerDue s.time (s.record st).silence = true := timer ▸ (timerDue_some s.time r).2 passed
  have silent := setRecord_other other ⟨.silent, none⟩
  have fields := State.eq_of_lossFields (orphanAndReport_liu (setRecord s st ⟨.silent, none⟩) st)
    (orphanAndReport_verdict _ st) (orphanAndReport_announce _ st) (orphanAndReport_inFlight _ st)
    (orphanAndReport_announceTimer _ st) (orphanAndReport_fcu _ st) (orphanAndReport_lifecycle _ st)
    (orphanAndReport_params _ st) (orphanAndReport_time _ st) (orphanAndReport_reply _ st)
    (orphanAndReport_shiftedOut _ st) (orphanAndReport_pending _ st)
  obtain ⟨d, draws, order⟩ := orphanAndReport_cases (setRecord s st ⟨.silent, none⟩) st
  have roster := fun x => (orphanAndReport_record (setRecord s st ⟨.silent, none⟩) st x).trans (setRecord_record ..)
  have cfg := fun i => orphanAndReport_cfg (setRecord s st ⟨.silent, none⟩) st i
  have expired : exec (.silenceTimerExpiry st) s = .next (orphanAndReport (setRecord s st ⟨.silent, none⟩) st) :=
    if_pos due
  generalize orphanAndReport (setRecord s st ⟨.silent, none⟩) st = t at *
  rw [silent] at *
  let u : State := { s with roster := s.roster.set st ⟨.silent, none⟩, draws := d }
  refine ⟨t, u, expired, rfl, draws, ?_, ?_, ?_, fields, pulls_of_loss u st order, fun i => ?_⟩
  · exact order.imp (fun first => first.trans (reportLoss_orphan u st)) id
  · rw [roster, if_pos ⟨rfl, other⟩]
  · exact fun x hx => (roster x).trans (if_neg fun here => hx here.1)
  · have loss : LossOf u st t i := by
      rcases order with rfl | rfl
      · exact lossOf_orphan_first u st i
      · exact lossOf_report_first u st i
    exact ⟨cfg i, loss.orphaned, loss.failed, fun missed kept =>
      ⟨(loss.untouched missed kept).rt, (loss.untouched missed kept).notices⟩⟩

/-! ### Evidence and announces (R131, R133) -/

section
variable {s : State} {p : StationParams} (params : s.params = some p)
include params

theorem presentNow_of_params : presentNow s = ⟨.present, some ⟨s.time, p.window⟩⟩ := by
  rw [presentNow, durationParam_of_params params]
  rfl

theorem takeEvidence_of_params (source : Option Station) (w : Window) : takeEvidence s source w = { s with
    roster := Vector.ofFn fun st =>
      if st ≠ p.station ∧ (source = some st ∨ w[st] ≠ .absent) then ⟨.present, some ⟨s.time, p.window⟩⟩
      else s.record st } := by
  rw [takeEvidence, presentNow_of_params params, State.own_of_params params]
  rfl

end

/-- The state with the roster an announce leaves: the record `r` of its sender, and the window as evidence of the
others (R133). -/
def announceHeard (s : State) (p : StationParams) (sender : Station) (r : RosterRecord) (w : Window) : State :=
  { s with roster := Vector.ofFn fun st =>
      if st = sender then r
      else if st ≠ p.station ∧ w[st] ≠ .absent then ⟨.present, some ⟨s.time, p.window⟩⟩
      else s.record st }

theorem announceHeard_record (s : State) (p : StationParams) (sender : Station) (r : RosterRecord) (w : Window)
    (st : Station) : (announceHeard s p sender r w).record st =
      if st = sender then r
      else if st ≠ p.station ∧ w[st] ≠ .absent then ⟨.present, some ⟨s.time, p.window⟩⟩
      else s.record st := by
  simp [announceHeard, State.record]

section
variable {s : State} {p : StationParams} (params : s.params = some p) {sender : Station} (other : sender ≠ p.station)
include params other

theorem setRecord_evidence (w : Window) (r : RosterRecord) :
    setRecord (takeEvidence s none (w.set sender.val .absent)) sender r = announceHeard s p sender r w := by
  have own : (takeEvidence s none (w.set sender.val .absent)).own = p.station :=
    (takeEvidence_own ..).trans (State.own_of_params params)
  rw [setRecord_other (own ▸ other), takeEvidence_of_params params]
  refine congrArg (fun roster => { s with roster := roster }) (Vector.ext fun j hj => ?_)
  rw [Vector.getElem_set, Vector.getElem_ofFn, Vector.getElem_ofFn]
  by_cases here : sender.val = j
  · rw [if_pos here, if_pos (Fin.ext here.symm)]
  · have slot : (w.set sender.val .absent)[(⟨j, hj⟩ : Station)] = w[(⟨j, hj⟩ : Station)] :=
      Vector.getElem_set_ne _ _ here
    rw [if_neg here, if_neg fun e => here (congrArg Fin.val e).symm, slot]
    simp

theorem setRecord_evidence_present (w : Window) :
    setRecord (takeEvidence s none (w.set sender.val .absent)) sender
      (presentNow (takeEvidence s none (w.set sender.val .absent)))
        = announceHeard s p sender ⟨.present, some ⟨s.time, p.window⟩⟩ w := by
  rw [setRecord_evidence params other, presentNow_of_params ((takeEvidence_params ..).trans params), takeEvidence_time]

theorem hearAnnounce_present (w : Window) : hearAnnounce s sender .present w =
    announceHeard s p sender ⟨.present, some ⟨s.time, p.window⟩⟩ w := setRecord_evidence_present params other w

theorem hearAnnounce_join (w : Window) : hearAnnounce s sender .join w =
    orphan (announceHeard s p sender ⟨.present, some ⟨s.time, p.window⟩⟩ w) sender := by
  rw [← setRecord_evidence_present params other]
  rfl

theorem hearAnnounce_leave (w : Window) : hearAnnounce s sender .leave w =
    orphanAndReport (announceHeard s p sender ⟨.absent, none⟩ w) sender := by
  rw [← setRecord_evidence params other]
  rfl

end

/-- Settles O30: an announce is its sender's record and the window's evidence, and then the orphaning and the loss
report its type calls for. -/
theorem evidenceMakesPresent : Obligations.EvidenceMakesPresent := by
  intro s w p params
  refine ⟨fun source => takeEvidence_of_params params source w, fun sender type other => ?_⟩
  have joined := hearAnnounce_join params other w
  have present := hearAnnounce_present params other w
  have left := hearAnnounce_leave params other w
  refine ⟨fun heard hheard => ⟨?_, ?_, ?_⟩, fun st => ?_⟩
  · rintro rfl
    rw [present, hheard]
    rfl
  · rintro rfl
    rw [joined, hheard]
    rfl
  · rintro rfl yields hyields
    obtain rfl : yields = fun i => yieldsTo sender (s.rt i) :=
      funext fun i => Bool.eq_iff_iff.2 ((hyields i).trans (yieldsTo_iff sender _).symm)
    have heard_eq : heard = announceHeard s p sender ⟨.absent, none⟩ w := hheard
    obtain ⟨d, draws, order⟩ := orphanAndReport_cases heard sender
    have kept : heard.draws = s.draws := by simp only [heard_eq, announceHeard]
    have entries : ({ heard with draws := d } : State).entries = s.entries := by simp only [heard_eq, announceHeard]
    rw [left, ← heard_eq]
    rw [reportLoss_orphan, reportLoss] at order
    simp only [State.rt_congr entries] at order
    exact ⟨{ heard with draws := d }, rfl, kept ▸ draws, order⟩
  · cases type with
    | join => rw [joined, orphan_record, announceHeard_record]
    | present => rw [present, announceHeard_record]
    | leave => rw [left, orphanAndReport_record, announceHeard_record]

end Sys2Proof.Machine
end

section
/-! SUPPORT. The duplicate sighting (R29, R32, R139) and what entry to HALTED leaves (R165). -/

namespace Sys2Proof.Machine

/-! ### The source field seen at its last bit (R29) -/

/-- What a receiver has read of a frame's own levels: the span bits before the place it has reached. -/
theorem Frame.rxScan_levels_span {f : Frame} (h : f.allowed) {n : Nat} (hn : 1 ≤ n) (hl : n ≤ f.levels.length) :
    (rxScan (f.levels.take n)).span = f.span.take (bitsBefore n) := by
  have last := (bitsBefore_beaten (f.wholeSpan h (crc f.covered).toNat).unbeaten).1
  exact (f.carries.reads (f.wholeSpan h (crc f.covered).toNat).shorter hn hl ((bitsBefore_mono hl).trans last.le)).span

/-- The 25th level of a frame is the last bit of its source field. -/
theorem Frame.sourceNow_levels {f : Frame} (h : f.allowed) : sourceNow (f.levels.take 25) = some f.source := by
  have long := f.length_levels_ge
  have span : 38 ≤ f.span.length := by
    rw [f.span_eq, f.length_spanWith]
    omega
  have before : (f.levels.take 25).dropLast = f.levels.take 24 := by
    rw [List.dropLast_eq_take, List.take_take, List.length_take, min_eq_left (show 25 ≤ f.levels.length by omega)]
    rfl
  obtain ⟨-, -, -, source⟩ := f.header_fields (crc f.covered).toNat
  rw [sourceNow, before, f.rxScan_levels_span h (by decide) (by omega), f.rxScan_levels_span h (by decide) (by omega),
    show bitsBefore 25 = 22 from rfl, show bitsBefore 24 = 21 from rfl, List.length_take, List.length_take,
    if_pos ⟨by omega, by omega⟩, stationAt, fieldAt_take (by decide), f.span_eq, source]
  simp [Fin.ofNat_eq_cast]

theorem exec_duplicateSighting_sighted {s : State} {levels : List Level}
    (lifecycle : s.lifecycle = .joining ∨ s.lifecycle = .online ∨ s.lifecycle = .leaving)
    (seen : sighted s levels = true) :
    exec (.duplicateSighting levels) s = .next (halt (setFlag s .duplicateStation)) :=
  if_pos ⟨(takesRequests_iff _).2 lifecycle, seen⟩

/-! ### Entry to HALTED (R165) -/

/-- The claims of entry to HALTED are those of the state before it, and their postings touch no other block. -/
theorem halt_eq {s : State} {p : StationParams} (params : s.params = some p) {u : State}
    (hu : u = (entriesWhere fun i => decide ((s.rt i).role = .claiming)).foldl
      (fun x i => post x i Reason.claimTimeout.alone) (s.mapRt fun _ _ r => haltRuntime r)) :
    halt s = { u with
      roster := Vector.ofFn fun st => if st = p.station then ⟨.absent, none⟩ else { s.record st with silence := none }
      announceTimer := none, inFlight := none, verdict := none, liu := .off, lifecycle := .halted
      flags := u.flags ||| StationNotice.halted.alone, pulls := s.pulls.map haltPull } := by
  have keeps : ∀ {β : Type} (read : State → β), (∀ x i, read (post x i Reason.claimTimeout.alone) = read x) →
      read u = read (s.mapRt fun _ _ r => haltRuntime r) := fun read h => by rw [hu, postAll_keeps read _ h]
  have pulls : u.pulls = s.pulls := (keeps (·.pulls) fun x i => post_pulls x i _).trans (State.mapRt_pulls ..)
  have roster : u.roster = s.roster := (keeps (·.roster) fun x i => post_roster x i _).trans (State.mapRt_roster ..)
  have own : u.own = p.station := State.own_of_params
    (((keeps (·.params) fun x i => post_params x i _).trans (State.mapRt_params ..)).trans params)
  unfold halt
  extract_lets claims mapped posted heard
  have posted_eq : posted = u := hu.symm
  have heard_eq : heard = { u with roster := Vector.ofFn fun st =>
      if st = p.station then ⟨.absent, none⟩ else { s.record st with silence := none } } := by
    simp only [heard, State.mapRoster, posted_eq, own, roster]
    rfl
  rw [heard_eq, ← pulls]
  rfl

/-- Settles O52: a sighting is the source field at its last bit or a SLOT fault, and the halt is written out. -/
theorem sightingsAndTheHalt : Obligations.SightingsAndTheHalt := by
  refine ⟨?_, ?_⟩
  · rintro s p params lifecycle flagged rfl
    refine ⟨fun f levels allowed own phase whole => ?_, fun slot => ?_⟩
    · have source : sourceNow (s.liu.sampled ++ levels) = some s.own := by
        rw [whole, f.sourceNow_levels allowed, own, State.own_of_params params]
      exact exec_duplicateSighting_sighted lifecycle (by simp [sighted, phase, source])
    · exact exec_duplicateSighting_sighted lifecycle (by simp [sighted, slot])
  · rintro s p params base u rfl hu
    exact halt_eq params hu

end Sys2Proof.Machine
end

section
/-! SUPPORT. What outcomes, completions and faults move of the score, the standing, the clean count and the notices (R142
to R151). -/

namespace Sys2Proof.Machine

/-! ### The score taken and the standing judged outside MUTED (R142 to R146) -/

theorem scoring_of {s : State} (lifecycle : s.lifecycle = .online ∨ s.lifecycle = .leaving)
    (unmuted : s.fcu.standing ≠ .muted) : scoring s = true := by
  rcases lifecycle with h | h <;> simp [scoring, h, unmuted]

theorem not_scoring_of {s : State} (still : s.lifecycle = .joining ∨ s.fcu.standing = .muted) : scoring s = false := by
  rcases still with h | h <;> simp [scoring, h]

/-- The law of the score does not look at the last fault kind. -/
theorem fcuLaw_noteFault {s : State} (law : fcuLaw s) (k : FaultKind) : fcuLaw (noteFault s k) := law

/-- What an event that takes the score to `n` leaves of `s` outside MUTED, the last fault kind being `k` then (R146). -/
def rescored (s : State) (n : Nat) (k : Option FaultKind) : State :=
  { s with
    fcu := ⟨n, standingOf n, 0, k⟩
    flags := if standingOf n = s.fcu.standing then s.flags else s.flags ||| 0x02 }

/-- The score after an outcome outside MUTED (R143). -/
def scoreAfter (f : Fcu) : TxOutcome → Nat
  | .completed => f.score - 2
  | .unheard => if f.standing = .good then f.score + 6 else f.score
  | .destroyed => f.score + 6
  | .outbid | .collided => f.score

section
variable {s : State} (law : fcuLaw s) (unmuted : s.fcu.standing ≠ .muted)
include law unmuted

/-- A score that stays moves nothing. -/
theorem rescored_score : rescored s s.fcu.score s.fcu.lastFault = s := by
  obtain ⟨-, judged, clean, -⟩ := law
  simp only [rescored, ← judged, if_true, ← clean unmuted]

theorem setScore_eq_rescored (n : Nat) : setScore s n = rescored s n s.fcu.lastFault := by
  obtain ⟨-, -, clean, -⟩ := law
  have cleared : (if standingOf n = .muted ∧ s.fcu.standing ≠ .muted then 0 else s.fcu.cleanCount) = 0 := by
    rw [clean unmuted, ite_self]
  rw [setScore, cleared]
  unfold rescored
  by_cases same : standingOf n = s.fcu.standing
  · rw [if_pos same, if_pos same]
  · rw [if_neg same, if_neg same]
    rfl

variable (taken : scoring s = true)
include taken

theorem scoreCompletion_scoring : scoreCompletion s = rescored s (s.fcu.score - 1) s.fcu.lastFault := by
  rw [scoreCompletion, if_pos taken, setScore_eq_rescored law unmuted]

theorem scoreOutcome_scoring (o : TxOutcome) :
    scoreOutcome s o = rescored s (scoreAfter s.fcu o) s.fcu.lastFault := by
  have moved := setScore_eq_rescored law unmuted
  have stays := rescored_score law unmuted
  unfold scoreOutcome
  rw [if_pos taken]
  cases o with
  | completed => exact moved _
  | destroyed => exact moved _
  | outbid => exact stays.symm
  | collided => exact stays.symm
  | unheard =>
    by_cases good : s.fcu.standing = .good
    · simp only [scoreAfter, if_pos good, moved]
    · simp only [scoreAfter, if_neg good, stays]

/-- UNHEARD brings a NO-RECEIPT with it, any other outcome no fault (R34, R145). -/
theorem fcuOutcome_scoring (o : TxOutcome) : fcuOutcome s o = rescored s (scoreAfter s.fcu o)
    (if o = .unheard then some .noReceipt else s.fcu.lastFault) := by
  unfold fcuOutcome
  split
  · next h =>
    subst h
    exact scoreOutcome_scoring (fcuLaw_noteFault law _) unmuted taken .unheard
  · exact scoreOutcome_scoring law unmuted taken o

/-- A charged fault (R144). -/
theorem scoreReceiverFault_charged {k : FaultKind} (charged : k.charged = true) :
    scoreReceiverFault s k = rescored s (s.fcu.score + 1) (some k) := by
  have noted : scoring (noteFault s k) = true := taken
  rw [scoreReceiverFault, if_pos charged, if_pos noted]
  exact setScore_eq_rescored (fcuLaw_noteFault law k) unmuted _

end

/-- What `rescored` changes, as R146 and R148 have it. -/
theorem rescored_effect {s t : State} {n : Nat} {k : Option FaultKind} (h : t = rescored s n k) :
    t = { s with fcu := t.fcu, flags := t.flags } ∧ t.fcu.score = n ∧ t.fcu.cleanCount = 0 ∧
    t.fcu.standing = (if n < 48 then .good else if n ≤ 119 then .cautious else .muted) ∧
    t.flags = (if t.fcu.standing = s.fcu.standing then s.flags else s.flags ||| 0x02) := by
  subst h
  exact ⟨rfl, rfl, rfl, rfl, rfl⟩

/-! ### Where the score stands still (R142, R144, R145, R150) -/

/-- A fault a receiver is not charged with is reported alone (R144, R145). -/
theorem scoreReceiverFault_uncharged {k : FaultKind} (charged : k.charged = false) (s : State) :
    scoreReceiverFault s k = noteFault s k := by
  rw [scoreReceiverFault, if_neg (by rw [charged]; decide)]

/-- A fault in JOINING is reported alone (R142, R145). -/
theorem scoreReceiverFault_joining {s : State} (joining : s.lifecycle = .joining) (k : FaultKind) :
    scoreReceiverFault s k = noteFault s k := by
  have still : scoring (noteFault s k) = false := not_scoring_of (.inl joining)
  cases charged : k.charged with
  | false => exact scoreReceiverFault_uncharged charged s
  | true => simp [scoreReceiverFault, charged, still, joining]

/-- A charged fault while MUTED clears the clean count (R150). -/
theorem scoreReceiverFault_muted {s : State} (online : s.lifecycle = .online) (muted : s.fcu.standing = .muted)
    {k : FaultKind} (charged : k.charged = true) :
    scoreReceiverFault s k = { s with fcu := ⟨s.fcu.score, .muted, 0, some k⟩ } := by
  have still : ¬ scoring (noteFault s k) = true := Bool.eq_false_iff.1 (not_scoring_of (.inr muted))
  rw [scoreReceiverFault, if_pos charged, if_neg still, if_pos ⟨muted, .inl online⟩, ← muted]
  rfl

theorem scoreOutcome_not_scoring {s : State} (still : scoring s = false) (o : TxOutcome) : scoreOutcome s o = s := by
  unfold scoreOutcome
  rw [if_neg (Bool.eq_false_iff.1 still)]

/-- In JOINING and while MUTED an outcome moves the last fault kind at most (R142, R145). -/
theorem fcuOutcome_not_scoring {s : State} (still : s.lifecycle = .joining ∨ s.fcu.standing = .muted) (o : TxOutcome) :
    fcuOutcome s o = { s with fcu := { s.fcu with
      lastFault := if o = .unheard then some .noReceipt else s.fcu.lastFault } } := by
  unfold fcuOutcome
  split
  · exact scoreOutcome_not_scoring (s := noteFault s .noReceipt) (not_scoring_of still) o
  · exact scoreOutcome_not_scoring (not_scoring_of still) o

theorem scoreCompletion_joining {s : State} (joining : s.lifecycle = .joining) : scoreCompletion s = s := by
  simp [scoreCompletion, not_scoring_of (.inl joining), joining]

/-! ### Back from MUTED by the clean count (R150, R151) -/

theorem scoreCompletion_muted {s : State} (online : s.lifecycle = .online) (muted : s.fcu.standing = .muted) :
    scoreCompletion s = if s.fcu.cleanCount + 1 < 48 then
      { s with fcu := { s.fcu with cleanCount := s.fcu.cleanCount + 1 } } else leaveMuted s 0 := by
  have still : ¬ scoring s = true := Bool.eq_false_iff.1 (not_scoring_of (.inr muted))
  rw [scoreCompletion, if_neg still, if_pos ⟨muted, online⟩]

/-- A station that may send is not LISTENING between frames (R40). -/
theorem settleLiu_sending {s : State} (sending : receiveOnly s = false) :
    settleLiu s = { s with liu := { s.liu with
      phase := if s.liu.phase = .listening then .resting else s.liu.phase } } := by
  rw [settleLiu, sending, if_neg Bool.false_ne_true]
  split
  · rfl
  · rfl

/-- The return from MUTED at score 0, ONLINE (R151). -/
theorem leaveMuted_zero {s : State} (online : s.lifecycle = .online) :
    leaveMuted s 0 = { s with
      fcu := ⟨0, .good, 0, s.fcu.lastFault⟩, flags := s.flags ||| 0x06
      announce := combineAnnounce s.announce ⟨.join, 0⟩
      liu := { s.liu with phase := if s.liu.phase = .listening then .resting else s.liu.phase } } := by
  have flags : s.flags ||| StationNotice.standing.alone ||| StationNotice.recovered.alone = s.flags ||| 0x06 := by
    rw [BitVec.or_assoc]
    rfl
  unfold leaveMuted
  rw [settleLiu_sending (by simp [receiveOnly, raiseAnnounce, online, standingOf]), ← flags]
  rfl

/-! ### The last fault kind (R145) -/

theorem setScore_lastFault (s : State) (n : Nat) : (setScore s n).fcu.lastFault = s.fcu.lastFault := by
  unfold setScore
  dsimp only
  split
  · rfl
  · rfl

theorem leaveMuted_lastFault (s : State) (n : Nat) : (leaveMuted s n).fcu.lastFault = s.fcu.lastFault := by
  simp [leaveMuted]

theorem scoreOutcome_lastFault (s : State) (o : TxOutcome) : (scoreOutcome s o).fcu.lastFault = s.fcu.lastFault := by
  unfold scoreOutcome
  split
  · cases o with
    | completed => exact setScore_lastFault s _
    | destroyed => exact setScore_lastFault s _
    | outbid => rfl
    | collided => rfl
    | unheard =>
      dsimp only
      split
      · exact setScore_lastFault s _
      · rfl
  · rfl

theorem fcuOutcome_lastFault (s : State) (o : TxOutcome) :
    (fcuOutcome s o).fcu.lastFault = if o = .unheard then some .noReceipt else s.fcu.lastFault := by
  rw [fcuOutcome, scoreOutcome_lastFault]
  split
  · rfl
  · rfl

theorem scoreReceiverFault_lastFault (s : State) (k : FaultKind) :
    (scoreReceiverFault s k).fcu.lastFault = some k := by
  unfold scoreReceiverFault
  dsimp only
  repeat' split
  · exact setScore_lastFault (noteFault s k) _
  all_goals rfl

theorem scoreCompletion_lastFault (s : State) : (scoreCompletion s).fcu.lastFault = s.fcu.lastFault := by
  unfold scoreCompletion
  repeat' split
  · exact setScore_lastFault s _
  · rfl
  · exact leaveMuted_lastFault s 0
  · rfl

/-- Settles O42: outside MUTED on the line every event is `rescored`; elsewhere it moves the last fault kind alone, and
while MUTED and ONLINE the clean count, which at 48 brings the station back. -/
theorem faultScoreAndStanding : Obligations.FaultScoreAndStanding := by
  refine fun s law => ⟨fcuOutcome_lastFault s, scoreReceiverFault_lastFault s, scoreCompletion_lastFault s,
    fun lifecycle unmuted t n event => ?_, fun still => ⟨fun o => ?_, ?_⟩, fun joining _ => ⟨?_, ?_⟩,
    fun online muted => ⟨fun k kind => ?_, fun below => ?_, fun last => ?_⟩⟩
  · have taken := scoring_of lifecycle unmuted
    have outcome := fcuOutcome_scoring law unmuted taken
    have fault := fun k => scoreReceiverFault_charged law unmuted taken (k := k)
    rcases event with ⟨rfl, rfl⟩ | ⟨rfl, rfl⟩ | ⟨rfl, rfl⟩ | ⟨rfl, rfl⟩ | ⟨rfl, rfl⟩ | ⟨rfl, rfl⟩ | ⟨rfl, rfl⟩ |
      ⟨rfl, rfl⟩ | ⟨rfl, rfl⟩ | ⟨rfl, rfl⟩
    · exact rescored_effect (outcome .completed)
    · exact rescored_effect (outcome .unheard)
    · exact rescored_effect (outcome .destroyed)
    · exact rescored_effect (outcome .outbid)
    · exact rescored_effect (outcome .collided)
    · exact rescored_effect (scoreCompletion_scoring law unmuted taken)
    · exact rescored_effect (fault .beat rfl)
    · exact rescored_effect (fault .form rfl)
    · exact rescored_effect (fault .check rfl)
    · have seen : scoreReceiverFault s .abortSeen = rescored s s.fcu.score (some .abortSeen) :=
        (scoreReceiverFault_uncharged rfl s).trans
          (rescored_score (fcuLaw_noteFault law .abortSeen) unmuted).symm
      exact rescored_effect seen
  · rw [fcuOutcome_not_scoring still]
    exact ⟨rfl, rfl⟩
  · exact scoreReceiverFault_uncharged rfl s
  · exact scoreCompletion_joining joining
  · exact scoreReceiverFault_joining joining
  · refine scoreReceiverFault_muted online muted ?_
    rcases kind with rfl | rfl | rfl <;> rfl
  · rw [scoreCompletion_muted online muted, if_pos (by omega)]
  · have returned := leaveMuted_zero online
    rw [combineAnnounce_join] at returned
    rw [scoreCompletion_muted online muted, if_neg (by omega)]
    exact returned

end Sys2Proof.Machine
end

section
/-! SUPPORT. Where `driveLawful` is not kept: it allows a sender with a fault recorded in its own frame, and a frame with
a fault in it may be followed silently (R37). -/

namespace Sys2Proof.Machine

/-- A lawful state that no run leads to: ONLINE, in WINDOW with its contention not lost and its frame in flight, and a
fault recorded in that frame all the same. SILENT_FRAME_END comes next. -/
def faultySender : State :=
  { State.reset with
    lifecycle := .online
    params := some ⟨3, .kbit100, 100, 300, 50, 20, 10⟩
    inFlight := some ⟨.announce .present, 0, ⟨.system, 3, 3, .announce .present⟩, false⟩
    liu := { Liu.off with phase := .window, sampled := [false], contention := .sending, fault := some .bit }
    pending := [.silentFrameEnd []] }

theorem driveLawful_faultySender : driveLawful faultySender := by
  unfold driveLawful fcuLaw quietLaw driveLaw
  decide

/-- The sender follows its frame silently, which at the start bit is in RECEIVING, and keeps its contention (log entry
21). -/
theorem step_faultySender :
    ∃ t, step faultySender = .next t ∧ t.liu.phase = .receiving ∧ t.liu.contention = .sending :=
  ⟨_, rfl, rfl, rfl⟩

/-- Refutes O58: SILENT_FRAME_END takes a sender with a fault recorded, which `driveLaw` allows, into RECEIVING, where
`driveLaw` allows no sender (R39). -/
theorem not_conductLifecycleAndRosterLawsAreKept : ¬ Obligations.ConductLifecycleAndRosterLawsAreKept := by
  rintro ⟨driveKept, -, -⟩
  obtain ⟨t, stepped, receiving, sending⟩ := step_faultySender
  obtain ⟨-, -, -, senderPlace, -⟩ := driveKept faultySender t driveLawful_faultySender stepped
  obtain ⟨phase, -⟩ := senderPlace sending
  rw [receiving] at phase
  revert phase
  decide

end Sys2Proof.Machine
end

section
/-! SUPPORT. SET-STATION and SET-ITEM (R157, R158): the ranges of their operands byte by byte, what SET-ITEM takes from
operands in range, and the removal of a notice record with its refill (R172). -/

namespace Sys2Proof.Machine

/-! ### SET-STATION (R157, R187) -/

theorem BitRate.ofCode_eq_none (b : Byte) : BitRate.ofCode b = none ↔ 3 < b.toNat := by
  revert b
  decide

/-- A rate code is the number of its rate. -/
theorem BitRate.ofCode_eq_some {b : Byte} {rate : BitRate} : BitRate.ofCode b = some rate →
    b.toNat = match rate with | .kbit100 => 0 | .kbit200 => 1 | .kbit400 => 2 | .kbit800 => 3 := by
  intro h
  unfold BitRate.ofCode at h
  split_ifs at h with h0 h1 h2 h3
  · cases h; exact congrArg BitVec.toNat h0
  · cases h; exact congrArg BitVec.toNat h1
  · cases h; exact congrArg BitVec.toNat h2
  · cases h; exact congrArg BitVec.toNat h3

theorem stationOperands_eq_none {ops : List Byte} : stationOperands ops = none ↔ stationOutOfRange ops := by
  unfold stationOperands stationOutOfRange
  dsimp only
  split
  · next noRate =>
    have rate := (BitRate.ofCode_eq_none _).1 noRate
    exact iff_of_true rfl (by omega)
  · next rate found =>
    have code : ¬ 3 < (byteAt ops 2).toNat := fun above => by
      rw [(BitRate.ofCode_eq_none _).2 above] at found
      cases found
    rw [ite_eq_right_iff]
    simp only [reduceCtorEq, imp_false]
    omega

/-- Operands in range name the parameters at their bytes. -/
theorem stationOperands_eq_some {ops : List Byte} {p : StationParams} (h : stationOperands ops = some p) :
    p.station.val = (byteAt ops 1).toNat ∧
    (byteAt ops 2).toNat = (match p.rate with | .kbit100 => 0 | .kbit200 => 1 | .kbit400 => 2 | .kbit800 => 3) ∧
    p.announce = word16At ops 3 ∧ p.window = word16At ops 5 ∧ p.claim = word16At ops 7 ∧
    p.pull = word16At ops 9 ∧ p.hold = (byteAt ops 11).toNat := by
  unfold stationOperands at h
  dsimp only at h
  split at h
  · cases h
  · next rate found =>
    rw [Option.ite_none_right_eq_some] at h
    obtain ⟨⟨station, -⟩, hp⟩ := h
    cases hp
    exact ⟨Nat.mod_eq_of_lt (by omega), BitRate.ofCode_eq_some found, rfl, rfl, rfl, rfl, rfl⟩

/-- SET-STATION with enough bytes, past the length check. -/
theorem exec_setStation_long {s : State} {ops : List Byte} (enough : 11 ≤ ops.length) :
    exec (.setStation ops) s = if s.lifecycle ≠ .configuring then .next (withReply s ops s [0x03])
      else match stationOperands ops with
        | none => .next (withReply s ops s [0x04])
        | some p => .next (withReply s ops { s with params := some p } [0x00]) := by
  rw [exec, execSetStation, if_neg (Nat.not_lt.2 enough)]
  rfl

/-- Settles O16: the operands are out of range exactly where they name no parameters (`stationOperands_eq_none`). -/
theorem setStationReplacesTheParameters : Obligations.SetStationReplacesTheParameters := by
  intro s ops enough
  rw [exec_setStation_long enough]
  refine ⟨fun elsewhere => if_pos elsewhere, fun configuring bad => ?_, fun configuring good => ?_⟩
  · rw [if_neg (not_not.2 configuring), stationOperands_eq_none.2 bad]
  · obtain ⟨p, named⟩ := Option.ne_none_iff_exists'.1 (mt stationOperands_eq_none.1 good)
    rw [if_neg (not_not.2 configuring), named]
    exact ⟨p, rfl, stationOperands_eq_some named⟩

/-! ### What SET-ITEM takes from its operands (R158, R188) -/

theorem itemClassOf_eq_none (b : Byte) : itemClassOf b = none ↔ b.toNat = 0 ∨ 3 < b.toNat := by
  revert b
  decide

theorem itemClassOf_eq_some {b : Byte} {cls : FrameClass} (h : itemClassOf b = some cls) : cls.byte = b := by
  unfold itemClassOf at h
  split_ifs at h with h1 h2 h3
  · cases h; exact h1.symm
  · cases h; exact h2.symm
  · cases h; exact h3.symm

/-- The configured role of a code, by its number. -/
theorem ConfigRole.ofCode_eq (b : Byte) : ConfigRole.ofCode b =
    if 2 < b.toNat then none else if b.toNat = 0 then some .unused
    else some (if b.toNat = 1 then .publisher else .subscriber) := by
  revert b
  decide

/-- The role of an entry to be used. -/
def usedRole (ops : List Byte) : ConfigRole := if (byteAt ops 2).toNat = 1 then .publisher else .subscriber

/-- Whether an entry to be used carries a publisher's fields (R5). -/
def sendsPublisher (ops : List Byte) : Bool := decide (usedRole ops = .publisher) || (byteAt ops 7).getLsbD 0

/-- Whether it carries a subscriber's fields (R5). -/
def sendsSubscriber (ops : List Byte) : Bool := decide (usedRole ops = .subscriber) || (byteAt ops 7).getLsbD 0

/-- The required receivers stored. -/
def sentRequired (ops : List Byte) : StationSet := if sendsPublisher ops then word32At ops 12 else 0

/-- The publish mode *periodic* stored. -/
def sentPeriodic (ops : List Byte) : Bool := sendsPublisher ops && (byteAt ops 7).getLsbD 2

/-- The ranges of the operands of an entry to be used, its class apart (R158). -/
abbrev sentInRange (ops : List Byte) : Prop :=
  (64 ≤ word16At ops 3 ∧ word16At ops 3 ≤ 4095) ∧ (byteAt ops 6).toNat ≤ 12 ∧
  (sentPeriodic ops = true → 1 ≤ word16At ops 8) ∧ (sendsPublisher ops = true → word16At ops 10 ≤ 1000) ∧
  (sentRequired ops ≠ 0 → 1 ≤ (byteAt ops 16).toNat ∧ (byteAt ops 16).toNat ≤ 15)

/-- The part stored of operands in range, the class being `cls`. -/
def sentItem (ops : List Byte) (cls : FrameClass) : ItemConfig where
  role := usedRole ops
  key := BitVec.ofNat 12 (word16At ops 3)
  cls := cls
  length := (byteAt ops 6).toNat
  movable := (byteAt ops 7).getLsbD 0
  onWrite := sendsPublisher ops && (byteAt ops 7).getLsbD 1
  periodic := sentPeriodic ops
  period := if sentPeriodic ops then word16At ops 8 else 0
  inhibit := if sendsPublisher ops then word16At ops 10 else 0
  required := sentRequired ops
  attemptLimit := if sentRequired ops ≠ 0 then (byteAt ops 16).toNat else 0
  initial := if usedRole ops = .publisher then bytesFrom ops 19 (byteAt ops 6).toNat
    else List.replicate (byteAt ops 6).toNat 0
  freshness := if sendsSubscriber ops then word16At ops 17 else 0
  autoPull := sendsSubscriber ops && (byteAt ops 7).getLsbD 3

theorem usedRole_ne_unused (ops : List Byte) : usedRole ops ≠ .unused := by
  unfold usedRole
  split <;> decide

/-- An entry to be used is stored where its class is one and its operands are in range. -/
theorem itemOperands_used {ops : List Byte} (low : (byteAt ops 2).toNat ≠ 0) (high : ¬ 2 < (byteAt ops 2).toNat) :
    itemOperands ops = match itemClassOf (byteAt ops 5) with
      | none => none
      | some cls => if sentInRange ops then some (sentItem ops cls) else none := by
  have role : ConfigRole.ofCode (byteAt ops 2) = some (usedRole ops) := by
    rw [ConfigRole.ofCode_eq, if_neg high, if_neg low]
    rfl
  unfold itemOperands
  rw [role]
  split
  · next h => cases h
  · next h => exact absurd (Option.some.inj h) (usedRole_ne_unused ops)
  · next r _ h => cases h; rfl

theorem usedRole_eq_publisher (ops : List Byte) : usedRole ops = .publisher ↔ (byteAt ops 2).toNat = 1 := by
  unfold usedRole
  split <;> simp_all

theorem sendsPublisher_iff (ops : List Byte) : sendsPublisher ops = true ↔
    (byteAt ops 2).toNat = 1 ∨ (byteAt ops 7).getLsbD 0 = true := by
  simp [sendsPublisher, usedRole_eq_publisher]

theorem sentRequired_ne_zero (ops : List Byte) : sentRequired ops ≠ 0 ↔
    sendsPublisher ops = true ∧ word32At ops 12 ≠ 0 := by
  simp [sentRequired]

/-- The operands name no part exactly where one of them is out of its range (R158). -/
theorem itemOperands_eq_none {ops : List Byte} : itemOperands ops = none ↔ itemOutOfRange ops := by
  by_cases high : 2 < (byteAt ops 2).toNat
  · have role : ConfigRole.ofCode (byteAt ops 2) = none := by rw [ConfigRole.ofCode_eq, if_pos high]
    refine iff_of_true ?_ (.inl high)
    unfold itemOperands
    rw [role]
  by_cases low : (byteAt ops 2).toNat = 0
  · have role : ConfigRole.ofCode (byteAt ops 2) = some .unused := by rw [ConfigRole.ofCode_eq, if_neg high, if_pos low]
    refine iff_of_false ?_ (by simp [itemOutOfRange, low])
    unfold itemOperands
    rw [role]
    exact Option.some_ne_none _
  rw [itemOperands_used low high]
  have attempts := sentRequired_ne_zero ops
  have publisher := sendsPublisher_iff ops
  have cls := itemClassOf_eq_none (byteAt ops 5)
  split
  · next noClass => exact iff_of_true rfl (.inr ⟨low, by tauto⟩)
  · next c found =>
    rw [found] at cls
    simp only [reduceCtorEq, false_iff, not_or] at cls
    rw [ite_eq_right_iff]
    simp only [reduceCtorEq, imp_false, sentInRange, sentPeriodic, Bool.and_eq_true, itemOutOfRange, ← publisher,
      attempts, not_and_or, Classical.not_imp, not_le, Nat.lt_one_iff, and_assoc, high, low, cls, false_or,
      not_false_eq_true, true_and, ne_eq]

theorem itemOperands_unused {ops : List Byte} (zero : (byteAt ops 2).toNat = 0) : itemOperands ops = some .unused := by
  have role : ConfigRole.ofCode (byteAt ops 2) = some .unused := by
    rw [ConfigRole.ofCode_eq, if_neg (by omega), if_pos zero]
  unfold itemOperands
  rw [role]

/-- Operands in range of an entry to be used name the part `sentItem`. -/
theorem itemOperands_in_range {ops : List Byte} (low : (byteAt ops 2).toNat ≠ 0) (good : ¬ itemOutOfRange ops) :
    ∃ cls, itemClassOf (byteAt ops 5) = some cls ∧ sentInRange ops ∧ itemOperands ops = some (sentItem ops cls) := by
  have named := mt itemOperands_eq_none.1 good
  have used := itemOperands_used low fun high => good (.inl high)
  rw [used] at named
  cases found : itemClassOf (byteAt ops 5) with
  | none => rw [found] at named; exact absurd rfl named
  | some cls =>
    rw [found] at named used
    by_cases range : sentInRange ops
    · exact ⟨cls, rfl, range, used.trans (if_pos range)⟩
    · exact absurd (if_neg range) named

theorem bytesFrom_operands {ops : List Byte} {n : Nat} (enough : 18 + n ≤ ops.length) :
    bytesFrom ops 19 n = (ops.drop 18).take n := by
  refine List.ext_getElem (by simp [bytesFrom]; omega) fun k hk _ => ?_
  have below : k < n := by simpa [bytesFrom] using hk
  simp only [bytesFrom, List.getElem_map, List.getElem_range, byteAt, List.getElem_take, List.getElem_drop]
  rw [show 19 + k - 1 = 18 + k by omega, List.getD_eq_getElem _ _ (by omega)]

section
variable {ops : List Byte} {cls : FrameClass} (range : sentInRange ops)
include range

theorem sentItem_key : (sentItem ops cls).key.toNat = word16At ops 3 := by
  obtain ⟨⟨-, high⟩, -⟩ := range
  simp only [sentItem, BitVec.toNat_ofNat]
  omega

/-- The part stored is in the form SET-ITEM stores. -/
theorem sentItem_stored (notSystem : cls ≠ .system) : (sentItem ops cls).stored := by
  have key := sentItem_key range (cls := cls)
  have freshness := word16At_le ops 17
  have period := word16At_le ops 8
  obtain ⟨⟨keyLow, -⟩, length, periods, inhibits, attempts⟩ := range
  refine ⟨usedRole_ne_unused ops, by omega, notSystem, length, fun carries => ?_, ?_, ?_, ?_, ?_, fun carries => ?_, ?_⟩
  · have : sendsPublisher ops = false := by simpa [sendsPublisher, sentItem] using carries
    simp [sentItem, sentPeriodic, sentRequired, this]
  · simp only [sentItem]
    split
    · next on => exact ⟨periods on, period⟩
    · rfl
  · simp only [sentItem]
    split
    · next on => exact inhibits on
    · omega
  · simp only [sentItem]
    split
    · next unconfirmed => simp [unconfirmed]
    · next confirmed => simpa [confirmed] using attempts confirmed
  · simp only [sentItem]
    split
    · simp [bytesFrom]
    · rfl
  · have : sendsSubscriber ops = false := by simpa [sendsSubscriber, sentItem] using carries
    simp [sentItem, this]
  · simp only [sentItem]
    split
    · exact freshness
    · omega

end

/-- A field is stored as its operand says wherever the entry carries it (R5). -/
theorem sentItem_carried {ops : List Byte} {cls : FrameClass} {c : ItemConfig} (hc : c = sentItem ops cls) :
    (c.role = .publisher ∨ c.movable = true →
      c.onWrite = (byteAt ops 7).getLsbD 1 ∧ c.periodic = (byteAt ops 7).getLsbD 2 ∧
      (c.periodic = true → c.period = word16At ops 8) ∧ c.inhibit = word16At ops 10 ∧
      c.required = word32At ops 12 ∧ (c.required ≠ 0 → c.attemptLimit = (byteAt ops 16).toNat)) ∧
    (c.role = .subscriber ∨ c.movable = true →
      c.freshness = word16At ops 17 ∧ c.autoPull = (byteAt ops 7).getLsbD 3) := by
  subst hc
  refine ⟨fun carries => ?_, fun carries => ?_⟩
  · have publisher : sendsPublisher ops = true := by simpa [sendsPublisher, sentItem] using carries
    simp only [sentItem, sentPeriodic, sentRequired, publisher, Bool.true_and, if_true, true_and]
    exact ⟨fun periodic => if_pos periodic, fun confirmed => if_pos confirmed⟩
  · have subscriber : sendsSubscriber ops = true := by simpa [sendsSubscriber, sentItem] using carries
    simp [sentItem, subscriber]

/-! ### The key check, the commit and the reply (R1, R158) -/

theorem keyTaken_eq_true {s : State} {i j : EntryIx} {c : ItemConfig} (used : c.role ≠ .unused) (other : j ≠ i)
    (held : (s.cfg j).role ≠ .unused) (key : (s.cfg j).key = c.key) : keyTaken s i c = true := by
  simp only [keyTaken, used, ne_eq, not_false_eq_true, decide_true, Bool.true_and, List.any_eq_true]
  exact ⟨j, List.mem_finRange j, by simp [other, held, key]⟩

/-- SET-ITEM with the bytes it needs, past the transport checks. -/
theorem exec_setItem_long {s : State} {i : EntryIx} {rest : List Byte}
    (enough : itemBytesNeeded (entryByte i :: rest) ≤ (entryByte i :: rest).length) {ops : List Byte}
    (hops : ops = entryByte i :: rest) :
    exec (.setItem ops) s = if s.lifecycle ≠ .configuring then .next (withReply s ops s [0x03])
      else match itemOperands ops with
        | none => .next (withReply s ops s [0x04])
        | some c => if keyTaken s i c = true then .next (withReply s ops s [0x04])
          else .next (withReply s ops (storeItem s i c) (itemReply i c)) := by
  subst hops
  have below : (entryByte i).toNat < 128 := by rw [entryByte_toNat]; exact i.isLt
  have named : (⟨(entryByte i).toNat, below⟩ : EntryIx) = i := Fin.ext (entryByte_toNat i)
  simp only [exec, execSetItem]
  rw [dif_pos below, if_neg (Nat.not_lt.2 enough)]
  simp only [named]
  rfl

/-! ### A record removed and the queue refilled (R172) -/

theorem removeNotice_absent {s : State} {i : EntryIx} (absent : ∀ n ∈ s.notices, n.entry ≠ i) :
    removeNotice s i = s := by
  refine if_neg fun found => ?_
  obtain ⟨n, mem, same⟩ := List.any_eq_true.1 found
  exact absent n mem (of_decide_eq_true same)

theorem removeNotice_present {s : State} {i : EntryIx} (present : ∃ n ∈ s.notices, n.entry = i) :
    removeNotice s i = refillNotices { s with notices := s.notices.filter fun n => decide (n.entry ≠ i) } := by
  obtain ⟨n, mem, same⟩ := present
  simp only [ne_eq, decide_not]
  exact if_pos (List.any_eq_true.2 ⟨n, mem, decide_eq_true same⟩)

theorem refillNotices_unmarked {s : State} (unmarked : ∀ j, (s.rt j).deferred = none) : refillNotices s = s := by
  have lowest : (lowestEntry fun i => (s.rt i).deferred.isSome) = none :=
    lowestEntry_eq_none.2 fun j => by rw [unmarked]; rfl
  rw [refillNotices, lowest]

theorem refillNotices_lowest {s : State} {j : EntryIx} {d : ReasonSet} (marked : (s.rt j).deferred = some d)
    (low : ∀ k, k < j → (s.rt k).deferred = none) : refillNotices s = { s with
      notices := s.notices ++ [⟨j, d⟩]
      entries := s.entries.set j ⟨s.cfg j, { s.rt j with deferred := none }⟩ } := by
  have lowest : (lowestEntry fun i => (s.rt i).deferred.isSome) = some j :=
    lowestEntry_eq_some (by rw [marked]; rfl) fun k hk => by rw [low k hk]; rfl
  rw [refillNotices, lowest]
  simp only [marked]
  rfl

/-- Settles O17: the operands are out of range exactly where they name no part (`itemOperands_eq_none`); in range they
name `sentItem`, or the unused part, which is stored unless its key is taken. -/
theorem setItemChecksAndStores : Obligations.SetItemChecksAndStores := by
  refine ⟨fun s i rest enough ops hops => ?_, fun u i => ⟨removeNotice_absent, fun present q hq => ?_⟩⟩
  · rw [exec_setItem_long enough hops]
    refine ⟨fun elsewhere => if_pos elsewhere, fun configuring bad => ?_, fun configuring good used taken => ?_,
      fun configuring good free => ?_⟩
    · rw [if_neg (not_not.2 configuring), itemOperands_eq_none.2 bad]
    · obtain ⟨cls, -, range, named⟩ := itemOperands_in_range used good
      obtain ⟨j, other, held, key⟩ := taken
      have taken : keyTaken s i (sentItem ops cls) = true :=
        keyTaken_eq_true (usedRole_ne_unused ops) other held
          (BitVec.eq_of_toNat_eq (key.trans (sentItem_key range).symm))
      rw [if_neg (not_not.2 configuring), named]
      exact if_pos taken
    · rw [if_neg (not_not.2 configuring)]
      by_cases used : (byteAt ops 2).toNat = 0
      · refine ⟨.unused, ?_, fun _ => rfl, fun h => absurd used h⟩
        rw [itemOperands_unused used]
        rfl
      · obtain ⟨cls, found, range, named⟩ := itemOperands_in_range used good
        have untaken : keyTaken s i (sentItem ops cls) = false := keyTaken_eq_false fun j other held same =>
          free.elim used fun free => free j other held ((congrArg BitVec.toNat same).trans (sentItem_key range))
        obtain ⟨publisher, subscriber⟩ := sentItem_carried (ops := ops) (cls := cls) rfl
        have length : (byteAt ops 6).toNat ≤ 12 := by obtain ⟨-, length, -⟩ := range; exact length
        refine ⟨sentItem ops cls, ?_, fun h => absurd h used, fun _ =>
          ⟨sentItem_stored range (itemClassOf_ne_system found), rfl, sentItem_key range, itemClassOf_eq_some found,
            rfl, rfl, publisher, subscriber, fun role => ?_⟩⟩
        · rw [named]
          exact if_neg (by rw [untaken]; exact Bool.false_ne_true)
        · rw [itemBytesNeeded, ← hops, if_pos length] at enough
          exact (if_pos role).trans (bytesFrom_operands enough)
  · rw [removeNotice_present present, ← hq]
    exact ⟨fun unmarked => refillNotices_unmarked unmarked, fun j d marked low => refillNotices_lowest marked low⟩

end Sys2Proof.Machine
end

section
/-! SUPPORT. START, STOP and REJOIN (R159, R160, R163, R152): the checks of START in their order, and what each
leaves. -/

namespace Sys2Proof.Machine

/-! ### The checks of START (R159, R189) -/

theorem exec_start_configuring {s : State} (ops : List Byte) (configuring : s.lifecycle = .configuring) :
    exec (.start ops) s = match configFailure s with
      | some e => .next (withReply s ops s e.reply)
      | none => .next (withReply s ops (startStation s) [0x00]) := by
  rw [exec, execStart, if_neg (not_not.2 configuring)]
  rfl

theorem exec_start_fails {s : State} (ops : List Byte) (configuring : s.lifecycle = .configuring) {e : ConfigFailure}
    (fails : configFailure s = some e) : exec (.start ops) s = .next (withReply s ops s e.reply) := by
  rw [exec_start_configuring ops configuring, fails]

theorem exec_start_passes {s : State} (ops : List Byte) (configuring : s.lifecycle = .configuring)
    (passes : configFailure s = none) : exec (.start ops) s = .next (withReply s ops (startStation s) [0x00]) := by
  rw [exec_start_configuring ops configuring, passes]

theorem configFailure_unset {s : State} (unset : s.params = none) : configFailure s = some .stationUnset := by
  rw [configFailure, unset]

theorem configFailure_short {s : State} {p : StationParams} (params : s.params = some p)
    (short : p.window < 3 * p.announce) : configFailure s = some .windowShort := by
  simp only [configFailure, params, if_pos short]

/-- Past the first two checks the entries decide. -/
theorem configFailure_entries {s : State} {p : StationParams} (params : s.params = some p)
    (wide : 3 * p.announce ≤ p.window) : configFailure s =
      (lowestEntry fun i => lacksModes (s.cfg i) || inSet (s.cfg i).required p.station).map fun i =>
        if lacksModes (s.cfg i) then .noModes i else .ownReceiver i := by
  simp only [configFailure, params, if_neg (Nat.not_lt.2 wide)]

theorem lacksModes_iff (c : ItemConfig) : lacksModes c = true ↔
    (c.role = .publisher ∨ c.movable = true) ∧ c.onWrite = false ∧ c.periodic = false := by
  simp [lacksModes, and_assoc]

theorem configFailure_none {s : State} {p : StationParams} (params : s.params = some p)
    (wide : 3 * p.announce ≤ p.window)
    (sound : ∀ i, lacksModes (s.cfg i) = false ∧ inSet (s.cfg i).required p.station = false) :
    configFailure s = none := by
  have lowest : (lowestEntry fun i => lacksModes (s.cfg i) || inSet (s.cfg i).required p.station) = none :=
    lowestEntry_eq_none.2 fun i => by
      obtain ⟨modes, receiver⟩ := sound i
      rw [modes, receiver]
      rfl
  rw [configFailure_entries params wide, lowest]
  rfl

theorem configFailure_lowest {s : State} {p : StationParams} (params : s.params = some p)
    (wide : 3 * p.announce ≤ p.window) {i : EntryIx}
    (fails : lacksModes (s.cfg i) = true ∨ inSet (s.cfg i).required p.station = true)
    (low : ∀ j, j < i → lacksModes (s.cfg j) = false ∧ inSet (s.cfg j).required p.station = false) :
    configFailure s = some (if lacksModes (s.cfg i) = true then .noModes i else .ownReceiver i) := by
  have lowest : (lowestEntry fun i => lacksModes (s.cfg i) || inSet (s.cfg i).required p.station) = some i :=
    lowestEntry_eq_some (Bool.or_eq_true _ _ ▸ fails) fun j hj => by
      obtain ⟨modes, receiver⟩ := low j hj
      rw [modes, receiver]
      rfl
  rw [configFailure_entries params wide, lowest]
  rfl

/-- Settles O19: START reports the first check that fails (`configFailure`), the last two at the lowest entry that fails
either. -/
theorem startChecksInOrder : Obligations.StartChecksInOrder := by
  refine fun s ops => ⟨fun elsewhere => if_pos elsewhere, fun configuring => ⟨fun unset => ?_, fun p params =>
    ⟨fun short => ?_, fun wide noModes ownReceiver hModes hReceiver => ?_⟩⟩⟩
  · exact exec_start_fails ops configuring (configFailure_unset unset)
  · exact exec_start_fails ops configuring (configFailure_short params short)
  have modes : ∀ i, noModes i ↔ lacksModes (s.cfg i) = true := fun i => (hModes i).trans (lacksModes_iff _).symm
  have receiver : ∀ i, ownReceiver i ↔ inSet (s.cfg i).required p.station = true := hReceiver
  simp only [modes, receiver, Bool.not_eq_true]
  refine ⟨fun i fails low => ?_, fun sound => ?_⟩
  · have failure := configFailure_lowest params wide fails low
    refine ⟨fun lacks => ?_, fun has => ?_⟩
    · exact exec_start_fails ops configuring (failure.trans (by rw [if_pos lacks]))
    · exact exec_start_fails ops configuring (failure.trans (by rw [if_neg (Bool.eq_false_iff.1 has)]))
  · exact ⟨startStation s, exec_start_passes ops configuring (configFailure_none params wide sound), rfl⟩

/-! ### What START leaves (R160, R19) -/

/-- Changing the runtime part of every entry, written out. -/
theorem State.mapRt_eq (s : State) (f : EntryIx → ItemConfig → Runtime → Runtime) : s.mapRt f =
    { s with entries := Vector.ofFn fun i => ⟨s.cfg i, f i (s.cfg i) (s.rt i)⟩ } := rfl

/-- Every roster record cleared. -/
theorem mapRoster_cleared (s : State) :
    (s.mapRoster fun _ _ => .cleared) = { s with roster := Vector.replicate 32 ⟨.absent, none⟩ } := by
  have roster : (Vector.ofFn fun _ : Station => RosterRecord.cleared) = Vector.replicate 32 ⟨.absent, none⟩ :=
    Vector.ext fun j hj => by rw [Vector.getElem_ofFn, Vector.getElem_replicate]; rfl
  rw [State.mapRoster, roster]

theorem startStation_eq (s : State) : startStation s = { s with
    entries := Vector.ofFn fun i => ⟨s.cfg i, resetRuntime (s.cfg i)⟩
    announce := none, inFlight := none, verdict := none, pulls := []
    roster := Vector.replicate 32 ⟨.absent, none⟩, announceTimer := none, notices := []
    fcu := ⟨0, .good, 0, s.fcu.lastFault⟩, lifecycle := .joining
    liu := ⟨.listening, [], .none, none, none, 0, 0, 0, 0⟩ } := by
  simp only [startStation, mapRoster_cleared, State.mapRt_eq, Liu.off]

/-- The storage of a publisher entry at reset is its initial value and zero bytes after it (log entry 1). -/
theorem resetRuntime_storage_publisher {c : ItemConfig} (role : c.role = .publisher) (short : c.initial.length ≤ 12) :
    (resetRuntime c).storage.toList = c.initial ++ List.replicate (12 - c.initial.length) 0x00 := by
  have zeros : Runtime.unused.storage.toList.drop c.initial.length = List.replicate (12 - c.initial.length) 0x00 := by
    rw [show Runtime.unused.storage.toList = List.replicate 12 0x00 from rfl, List.drop_replicate]
  rw [← zeros, ← storeValue_toList _ _ short, resetRuntime, role]

theorem resetRuntime_storage_other {c : ItemConfig} (role : c.role ≠ .publisher) :
    (resetRuntime c).storage.toList = List.replicate 12 0x00 := by
  unfold resetRuntime
  cases hr : c.role with
  | publisher => exact absurd hr role
  | unused => rfl
  | subscriber => rfl

/-- Settles O20: with every check passed START leaves `startStation`, written out; the reset values are R19's
columns. -/
theorem startSetsEveryEntryToReset : Obligations.StartSetsEveryEntryToReset := by
  refine ⟨fun s ops p configuring params wide modes receivers => ?_, fun c =>
    ⟨resetRuntime_storage_publisher, resetRuntime_storage_other, ?_⟩⟩
  · have sound : ∀ i, lacksModes (s.cfg i) = false ∧ inSet (s.cfg i).required p.station = false := fun i => by
      refine ⟨Bool.eq_false_iff.2 fun lacks => ?_, receivers i⟩
      obtain ⟨publishes, onWrite, periodic⟩ := (lacksModes_iff _).1 lacks
      simpa [onWrite, periodic] using modes i publishes
    rw [exec_start_passes ops configuring (configFailure_none params wide sound), startStation_eq]
  · unfold resetRuntime
    cases c.role with
    | unused => rfl
    | publisher => rfl
    | subscriber => rfl

/-! ### STOP and REJOIN (R163, R152) -/

/-- LEAVE raised: it takes the place of a weaker announce (R66). -/
theorem combineAnnounce_leave (present : Option AnnounceRequest) : combineAnnounce present ⟨.leave, 0⟩ =
    some (match present with | some ⟨.leave, n⟩ => ⟨.leave, n⟩ | _ => ⟨.leave, 0⟩) := by
  rcases present with _ | ⟨_ | _ | _, n⟩ <;> rfl

/-- Entry to LEAVING (R163). -/
theorem enterLeaving_eq (s : State) : enterLeaving s = { s with
    lifecycle := .leaving, announceTimer := none
    announce := combineAnnounce s.announce ⟨.leave, 0⟩
    entries := Vector.ofFn fun i => ⟨s.cfg i, { s.rt i with periodTimer := none }⟩ } := by
  simp only [enterLeaving, raiseAnnounce, State.mapRt_eq]

/-- The return from MUTED by REJOIN, at score 119 (R152). -/
theorem leaveMuted_rejoin {s : State} (online : s.lifecycle = .online) : leaveMuted s 119 = { s with
    fcu := ⟨119, .cautious, 0, s.fcu.lastFault⟩
    flags := s.flags ||| 0x06
    announce := combineAnnounce s.announce ⟨.join, 0⟩
    liu := { s.liu with phase := if s.liu.phase = .listening then .resting else s.liu.phase } } := by
  have flags : s.flags ||| StationNotice.standing.alone ||| StationNotice.recovered.alone = s.flags ||| 0x06 := by
    rw [BitVec.or_assoc]
    rfl
  unfold leaveMuted
  rw [settleLiu_sending (by simp [receiveOnly, raiseAnnounce, online, standingOf]), ← flags]
  rfl

/-- Settles O21: STOP is refused, leaves or halts, and REJOIN is refused or returns from MUTED, by lifecycle and
standing. -/
theorem stopAndRejoin : Obligations.StopAndRejoin := by
  refine fun s ops => ⟨fun elsewhere => ⟨if_pos elsewhere, if_neg fun ⟨online, _⟩ => elsewhere online⟩,
    fun online unmuted => ⟨?_, if_neg fun ⟨_, muted⟩ => unmuted muted⟩, fun online muted => ⟨?_, ?_⟩⟩
  · rw [exec, execStop, if_neg (not_not.2 online), if_neg unmuted, enterLeaving_eq, combineAnnounce_leave]
    rfl
  · rw [exec, execStop, if_neg (not_not.2 online), if_pos muted]
    rfl
  · rw [exec, execRejoin, if_pos ⟨online, muted⟩, leaveMuted_rejoin online, combineAnnounce_join]
    rfl

end Sys2Proof.Machine
end

section
/-! SUPPORT. RESTART and full reset (R166, R167): what they leave, and that the state after reset meets every law. -/

namespace Sys2Proof.Machine

/-! ### RESTART and full reset -/

theorem clearRuntime_eq (s : State) : clearRuntime s = { s with
    entries := Vector.ofFn fun i => ⟨s.cfg i, resetRuntime (s.cfg i)⟩
    announce := none, inFlight := none, verdict := none, pulls := []
    roster := Vector.replicate 32 ⟨.absent, none⟩, announceTimer := none, notices := [], flags := 0
    fcu := ⟨0, .good, 0, none⟩, lifecycle := .configuring
    liu := ⟨.off, [], .none, none, none, 0, 0, 0, 0⟩ } := by
  simp only [clearRuntime, mapRoster_cleared, State.mapRt_eq, Liu.off, Fcu.cleared]

/-- Settles O22: RESTART leaves `clearRuntime`, full reset the state after reset with the model's own fields kept. -/
theorem restartAndFullReset : Obligations.RestartAndFullReset := by
  refine fun s => ⟨fun ops => ?_, { State.reset with draws := s.draws, pending := s.pending }, rfl, rfl, rfl, rfl, rfl,
    fun i => ⟨State.reset_cfg i, State.reset_rt i⟩, dormant_reset.record, rfl, rfl, rfl, rfl, rfl, rfl, rfl, rfl, rfl,
    rfl, rfl, rfl⟩
  rw [exec, execRestart, clearRuntime_eq]
  rfl

/-! ### The laws of the state after reset -/

theorem configuringLaw_reset : configuringLaw State.reset := (configuringLaw_iff _).2 fun _ => dormant_reset

theorem noticeLaw_reset : noticeLaw State.reset :=
  ⟨by decide, by decide, fun i marked => by rw [State.reset_rt] at marked; cases marked⟩

theorem deliveryLaw_reset (i : EntryIx) : deliveryLaw (State.reset.cfg i) (State.reset.rt i) := by
  rw [State.reset_cfg, State.reset_rt]
  exact ⟨fun required => absurd rfl required, fun d held => by cases held⟩

theorem mirrorsLawful_reset : mirrorsLawful State.reset := by
  refine (mirrorsLawful_iff _).2 ⟨configuringLaw_reset, verdictLaw_of_none rfl, tables_of_reset rfl (fun i => ?_)
    fun _ i => ?_⟩
  · rw [State.reset_rt, State.reset_cfg]
    rfl
  · rw [State.reset_cfg]
    exact configLaw_unused

theorem driveLawful_reset : driveLawful State.reset := by
  unfold driveLawful fcuLaw quietLaw driveLaw
  decide

theorem lifecycleLawful_reset : lifecycleLawful State.reset := by
  refine ⟨configuringLaw_reset, nofun, ?_, ?_⟩
  · unfold fcuLaw
    decide
  · unfold lifecycleLaw
    decide

theorem rosterLawful_reset : rosterLawful State.reset := by
  refine ⟨configuringLaw_reset, nofun, nofun, fun st runs => ?_, nofun⟩
  rw [dormant_reset.record] at runs
  cases runs

theorem keyLaw_reset : keyLaw State.reset := fun i j used => absurd (by rw [State.reset_cfg]; rfl) used

/-- Settles O60: full reset is the state after reset by definition, and each law is checked of that state. -/
theorem resetMeetsEveryLaw : Obligations.ResetMeetsEveryLaw :=
  ⟨fun _ => rfl, noticeLaw_reset, deliveryLaw_reset, mirrorsLawful_reset, driveLawful_reset, lifecycleLawful_reset,
    rosterLawful_reset, keyLaw_reset⟩

end Sys2Proof.Machine
end

section
/-! SUPPORT. Station time (R156): no block writes it, so that of the commands a tick and full reset alone move it. -/

namespace Sys2Proof.Machine

/-! ### What the blocks do leaves station time as it is -/

theorem time_of_clock {s t : State} (h : clockOf t = clockOf s) : t.time = s.time := congrArg (fun x => x.2.1) h

@[simp] theorem pullUnanswered_time (s : State) (i : EntryIx) : (pullUnanswered s i).time = s.time := by
  simp [pullUnanswered]

@[simp] theorem judgePullWindow_time (s : State) (i : EntryIx) (w : Window) :
    (judgePullWindow s i w).time = s.time := by
  unfold judgePullWindow pullTaken
  split <;> simp

@[simp] theorem abandonMergeWatch_time (s : State) : (abandonMergeWatch s).time = s.time := by
  unfold abandonMergeWatch
  repeat' split
  all_goals simp

@[simp] theorem keepPull_time (s : State) (i : EntryIx) (f : PullRecord → PullRecord) :
    (keepPull s i f).time = s.time := by
  simp [keepPull]

@[simp] theorem capture_time (s : State) (q : Request) : (capture s q).time = s.time := by
  cases q <;> simp [capture, leaveSet]

@[simp] theorem returnPublish_time (s : State) (i : EntryIx) (n : Nat) : (returnPublish s i n).time = s.time := by
  simp [returnPublish]

@[simp] theorem governedPublish_time (s : State) (i : EntryIx) (d : Delivery) (n : Nat) (o : TxOutcome)
    (w : Option Window) : (governedPublish s i d n o w).time = s.time := by
  unfold governedPublish
  dsimp only
  split <;> simp

@[simp] theorem unconfirmedPublish_time (s : State) (i : EntryIx) (n : Nat) (o : TxOutcome) :
    (unconfirmedPublish s i n o).time = s.time := by
  unfold unconfirmedPublish
  repeat' split
  all_goals simp

@[simp] theorem publishOutcome_time (s : State) (i : EntryIx) (n : Nat) (captured : Byte) (o : TxOutcome)
    (w : Option Window) : (publishOutcome s i n captured o w).time = s.time := by
  unfold publishOutcome
  dsimp only
  split <;> simp [startInhibit]

@[simp] theorem announceOutcome_time (s : State) (t : AnnounceType) (n : Nat) (o : TxOutcome) :
    (announceOutcome s t n o).1.time = s.time := by
  unfold announceOutcome returnAnnounce
  repeat' split
  all_goals rfl

@[simp] theorem pullOutcome_time (s : State) (i : EntryIx) (o : TxOutcome) (w : Option Window) :
    (pullOutcome s i o w).time = s.time := by
  unfold pullOutcome
  repeat' split
  all_goals simp

@[simp] theorem claimCompleted_time (s : State) (i : EntryIx) (k : ClaimKind) (w : Window) :
    (claimCompleted s i k w).time = s.time := by
  unfold claimCompleted keepClaim
  repeat' split
  all_goals simp

@[simp] theorem claimOutcome_time (s : State) (i : EntryIx) (o : TxOutcome) (w : Option Window) :
    (claimOutcome s i o w).time = s.time := by
  unfold claimOutcome keepClaim
  repeat' split
  all_goals simp

@[simp] theorem retryYield_time (s : State) (i : EntryIx) (n : Nat) : (retryYield s i n).time = s.time := by
  unfold retryYield keepYield
  split <;> simp

@[simp] theorem yieldOutcome_time (s : State) (i : EntryIx) (o : TxOutcome) (w : Option Window) :
    (yieldOutcome s i o w).time = s.time := by
  unfold yieldOutcome completeYield keepYield
  repeat' split
  all_goals simp

@[simp] theorem ownerOutcome_time (s : State) (fl : InFlight) (o : TxOutcome) (w : Option Window) :
    (ownerOutcome s fl o w).1.time = s.time := by
  unfold ownerOutcome
  split <;> simp

@[simp] theorem outcomeEvidence_time (s : State) (o : TxOutcome) (w : Option Window) :
    (outcomeEvidence s o w).time = s.time := by
  unfold outcomeEvidence
  split <;> simp

@[simp] theorem reportStanding_time (s : State) : (reportStanding s).time = s.time := by
  unfold reportStanding
  split <;> simp

@[simp] theorem handleOutcome_time (s : State) (fl : InFlight) (o : TxOutcome) (w : Option Window) :
    (handleOutcome s fl o w).time = s.time := by
  unfold handleOutcome afterOutcome
  dsimp only
  split <;> simp [time_of_clock (fcuOutcome_clock _ _)]

@[simp] theorem enterOnline_time (s : State) : (enterOnline s).time = s.time := by
  simp [enterOnline]

@[simp] theorem presentCompletion_time (s : State) (v : VerdictRecord) (w : Window) :
    (presentCompletion s v w).time = s.time := by
  have heard := time_of_clock (heardCompletion_clock s v w)
  have answered : (afterAnswer (heardCompletion s v w) v.driven).time = s.time := by
    unfold afterAnswer
    split <;> simp [heard]
  show (afterCompletion (afterAnswer (heardCompletion s v w) v.driven)).time = s.time
  unfold afterCompletion
  split
  · rw [enterOnline_time, answered]
  · exact answered

@[simp] theorem countGap_time (s : State) (n : Nat) : (countGap s n).time = s.time := by
  unfold countGap
  split <;> rfl

@[simp] theorem liuAfterOutcome_time (s : State) (levels : List Level) (o : TxOutcome) (w : Option Window) :
    (liuAfterOutcome s levels o w).time = s.time := by
  unfold liuAfterOutcome
  split
  · rfl
  · rfl
  all_goals simp

@[simp] theorem receiverFault_time (s : State) (levels : List Level) (k : FaultKind) :
    (receiverFault s levels k).time = s.time := by
  simp [receiverFault, liuOnFault]

@[simp] theorem sampleOn_time (s : State) (levels : List Level) (phase : LiuPhase) :
    (sampleOn s levels phase).time = s.time := by
  simp [sampleOn]

@[simp] theorem takeClaim_time (s : State) (i : EntryIx) : (takeClaim s i).time = s.time := by
  simp [takeClaim]

@[simp] theorem holdLimit_time (s : State) : (holdLimit s).2.time = s.time := by
  unfold holdLimit
  split <;> rfl

/-! ### The commands -/

theorem onEntry_time {s : State} {ops : List Byte} {run : EntryIx → State} (ran : ∀ i, (run i).time = s.time) :
    (onEntry s ops run).time = s.time :=
  onEntry_of (P := fun t => t.time = s.time) (fun _ => rfl) fun i _ => ran i

/-- The running out of a timer, due or not. -/
theorem ifDue_time {s u : State} {now : Time} {x : Timer} (kept : u.time = s.time) :
    Leads (fun t => t.time = s.time) (if timerDue now x then done u else done s) := by
  split
  · exact leads_done.2 kept
  · exact leads_done.2 rfl

theorem exec_port_time {c : Instr} {ops : List Byte} {s : State} (hc : operandsOf c = some ops) :
    Leads (fun t => t.time = s.time) (exec c s) := by
  cases c with
  | nop ops => exact leads_done.2 rfl
  | status ops => exact leads_done.2 rfl
  | nextNotice ops =>
    simp only [exec, execNextNotice]
    split <;> simp [refuse]
  | read ops => exact leads_done.2 (onEntry_time fun _ => rfl)
  | readDelivery ops => exact leads_done.2 (onEntry_time fun _ => rfl)
  | readRoster ops => exact leads_done.2 rfl
  | write ops =>
    refine leads_done.2 (onEntry_time fun i => ?_)
    repeat' split
    all_goals simp [refuse]
  | hold ops =>
    refine leads_done.2 (onEntry_time fun i => ?_)
    split <;> simp [refuse]
  | release ops =>
    refine leads_done.2 (onEntry_time fun i => ?_)
    split <;> simp [refuse]
  | pull ops =>
    refine leads_done.2 (onEntry_time fun i => ?_)
    repeat' split
    all_goals simp [refuse]
  | claim ops =>
    refine leads_done.2 (onEntry_time fun i => ?_)
    split <;> simp [refuse]
  | setStation ops =>
    refine execSetStation_cases.imp ?_
    rintro t (⟨st, rfl⟩ | ⟨-, p, rfl⟩) <;> rfl
  | setItem ops =>
    refine execSetItem_cases.imp ?_
    rintro t (⟨st, rfl⟩ | ⟨-, i, c, -, -, rfl⟩)
    · rfl
    · simp [storeItem]
  | start ops =>
    simp only [exec, execStart]
    repeat' split
    all_goals simp [refuse, startStation]
  | stop ops =>
    simp only [exec, execStop]
    repeat' split
    all_goals simp [refuse, enterLeaving]
  | rejoin ops =>
    simp only [exec, execRejoin]
    split <;> simp [refuse]
  | restart ops => exact leads_done.2 (by simp [clearRuntime])
  | unknownCommandCode code ops => exact leads_done.2 rfl
  | _ => cases hc

theorem exec_happening_time {c : Instr} {s : State} (hc : operandsOf c = none) (noTick : c ≠ .stationTimeTick)
    (noReset : c ≠ .fullReset) : Leads (fun t => t.time = s.time) (exec c s) := by
  cases c with
  | stationTimeTick => exact absurd rfl noTick
  | fullReset => exact absurd rfl noReset
  | emptyTransaction => exact leads_done.2 rfl
  | lineFree n =>
    simp only [exec, execLineFree]
    split <;> simp
  | startBitCapture =>
    simp only [exec, execStartBitCapture]
    repeat' split
    all_goals simp
  | frameVerdictPoint levels =>
    simp only [exec, execFrameVerdictPoint]
    repeat' split
    all_goals simp
  | receivedFrameCompletion levels =>
    simp only [exec, execReceivedFrameCompletion]
    repeat' split
    all_goals simp
  | joinQuiet n =>
    simp only [exec, execJoinQuiet]
    repeat' split
    all_goals simp
  | ownFrameOutcome levels =>
    simp only [exec, execOwnFrameOutcome]
    repeat' split
    all_goals simp
  | faultFound levels =>
    simp only [exec, execFaultFound]
    repeat' split
    all_goals simp [senderFault, liuOnFault]
  | lineRecovered levels =>
    simp only [exec, execLineRecovered]
    repeat' split
    all_goals simp [passMark, enterRecovering]
  | silentFrameEnd levels =>
    simp only [exec, execSilentFrameEnd]
    repeat' split
    all_goals simp
  | duplicateSighting levels =>
    simp only [exec, execDuplicateSighting]
    split <;> simp
  | startBitOfAnotherStation =>
    simp only [exec, execStartBitOfAnotherStation]
    split <;> simp
  | periodTimerExpiry i => exact ifDue_time (by simp)
  | inhibitTimerExpiry i => exact ifDue_time (by simp)
  | freshnessTimerExpiry i => exact ifDue_time (by simp)
  | holdTimerExpiry i => exact ifDue_time (by simp)
  | claimTimerExpiry i => exact ifDue_time (by simp)
  | pullReplyTimerExpiry i =>
    simp only [exec, execPullReplyTimerExpiry]
    repeat' split
    all_goals simp
  | silenceTimerExpiry st => exact ifDue_time (by simp)
  | ownAnnounceTimerExpiry => exact ifDue_time (by simp)
  | _ => cases hc

/-- Settles O23: a tick counts modulo 2^32; no other command but full reset writes station time (`exec_port_time`,
`exec_happening_time`). -/
theorem stationTimeAdvancesByTicksAlone : Obligations.StationTimeAdvancesByTicksAlone := by
  refine ⟨fun s => ?_, fun c s t noTick noReset => ?_⟩
  · have counted : s.time + 1 = BitVec.ofNat 32 ((s.time.toNat + 1) % 4294967296) := by
      apply BitVec.eq_of_toNat_eq
      simp
    rw [← counted]
    rfl
  · cases hc : operandsOf c with
    | some ops => exact exec_port_time hc t
    | none => exact exec_happening_time hc noTick noReset t

end Sys2Proof.Machine
end

section
/-! SUPPORT. HALTED (R165): what a command other than RESTART and full reset can change there. -/

namespace Sys2Proof.Machine

/-- `t` is `s` but for what the command `c` may change in HALTED (R165). -/
structure HaltedStep (c : Instr) (s t : State) : Prop where
  fields : t = { s with time := t.time, reply := t.reply, shiftedOut := t.shiftedOut, flags := t.flags
                        notices := t.notices, entries := t.entries }
  flags : (∀ ops, c ≠ .status ops) → t.flags = s.flags
  notices : (∀ ops, c ≠ .nextNotice ops) → t.notices = s.notices ∧ t.entries = s.entries
  time : c ≠ .stationTimeTick → t.time = s.time
  entry : ∀ i, t.cfg i = s.cfg i ∧ t.rt i = { s.rt i with deferred := (t.rt i).deferred }

/-- A reply and the bytes shifted out are all that most commands change. -/
theorem HaltedStep.replied (c : Instr) (s : State) (reply : Option (List Byte)) (shifted : List Byte) :
    HaltedStep c s { s with reply := reply, shiftedOut := shifted } where
  fields := rfl
  flags _ := rfl
  notices _ := ⟨rfl, rfl⟩
  time _ := rfl
  entry _ := ⟨rfl, rfl⟩

theorem HaltedStep.idle (c : Instr) (s : State) : HaltedStep c s s := .replied c s s.reply s.shiftedOut

theorem HaltedStep.withReply (c : Instr) (s : State) (ops reply : List Byte) :
    HaltedStep c s (withReply s ops s reply) := .replied c s _ _

/-- STATUS empties the station notice set (R176). -/
theorem HaltedStep.status (s : State) (ops reply : List Byte) :
    HaltedStep (.status ops) s (Machine.withReply s ops { s with flags := 0 } reply) where
  fields := rfl
  flags other := absurd rfl (other ops)
  notices _ := ⟨rfl, rfl⟩
  time _ := rfl
  entry _ := ⟨rfl, rfl⟩

theorem HaltedStep.tick (s : State) (now : Time) : HaltedStep .stationTimeTick s { s with time := now } where
  fields := rfl
  flags _ := rfl
  notices _ := ⟨rfl, rfl⟩
  time other := absurd rfl other
  entry _ := ⟨rfl, rfl⟩

/-- A refill writes the queue and one entry alone. -/
theorem refillNotices_fields (s : State) :
    ∃ q entries, refillNotices s = { s with notices := q, entries := entries } := by
  unfold refillNotices
  split
  · exact ⟨s.notices, s.entries, rfl⟩
  · exact ⟨_, _, rfl⟩

/-- NEXT-NOTICE drains the queue and, with it, deferred reasons (R172, R173). -/
theorem HaltedStep.nextNotice (s : State) (ops reply : List Byte) (rest : List NoticeRecord) :
    HaltedStep (.nextNotice ops) s (Machine.withReply s ops (refillNotices { s with notices := rest }) reply) where
  fields := by
    obtain ⟨q, entries, refilled⟩ := refillNotices_fields { s with notices := rest }
    rw [refilled]
    rfl
  flags _ := refillNotices_flags { s with notices := rest }
  notices other := absurd rfl (other ops)
  time _ := refillNotices_time { s with notices := rest }
  entry i := ⟨refillNotices_cfg { s with notices := rest } i, refillNotices_rt { s with notices := rest } i⟩

section
variable {s : State} (halted : s.lifecycle = .halted)
include halted

/-- The host's commands are answered without effect, STATUS and NEXT-NOTICE apart. -/
theorem exec_port_halted {c : Instr} {ops : List Byte} (hc : operandsOf c = some ops)
    (noRestart : ∀ ops, c ≠ .restart ops) :
    Leads (HaltedStep c s) (exec c s) := by
  have closed : takesRequests s.lifecycle = false := by rw [halted]; rfl
  have refused : ∀ st, HaltedStep c s (refuse s ops st) := fun st => .withReply c s ops _
  cases c with
  | restart ops => exact absurd rfl (noRestart ops)
  | nop ops => exact leads_done.2 (.replied _ s _ _)
  | status ops => exact leads_done.2 (.status s _ _)
  | nextNotice ops =>
    cases hc
    simp only [exec, execNextNotice]
    split
    · exact leads_done.2 (refused _)
    · exact leads_done.2 (.nextNotice s _ _ _)
  | read ops => cases hc; exact leads_done.2 (onEntry_of refused fun _ _ => .withReply _ s _ _)
  | readDelivery ops => cases hc; exact leads_done.2 (onEntry_of refused fun _ _ => .withReply _ s _ _)
  | readRoster ops => exact leads_done.2 (.withReply _ s _ _)
  | write ops =>
    cases hc
    refine leads_done.2 (onEntry_of refused fun i _ => ?_)
    simp only [closed, Bool.false_eq_true, and_false, if_false]
    split <;> exact refused _
  | hold ops =>
    cases hc
    refine leads_done.2 (onEntry_of refused fun i _ => ?_)
    rw [if_neg fun ⟨_, running⟩ => running halted]
    exact refused _
  | release ops =>
    cases hc
    refine leads_done.2 (onEntry_of refused fun i _ => ?_)
    rw [if_neg fun ⟨_, running⟩ => running halted]
    exact refused _
  | pull ops =>
    cases hc
    refine leads_done.2 (onEntry_of refused fun i _ => ?_)
    simp only [closed, Bool.false_eq_true, and_false, if_false]
    exact refused _
  | claim ops =>
    cases hc
    refine leads_done.2 (onEntry_of refused fun i _ => ?_)
    simp only [closed, Bool.false_eq_true, and_false, if_false]
    exact refused _
  | setStation ops =>
    cases hc
    refine execSetStation_cases.imp ?_
    rintro t (⟨st, rfl⟩ | ⟨configuring, -⟩)
    · exact refused st
    · cases halted.symm.trans configuring
  | setItem ops =>
    cases hc
    refine execSetItem_cases.imp ?_
    rintro t (⟨st, rfl⟩ | ⟨configuring, -⟩)
    · exact refused st
    · cases halted.symm.trans configuring
  | start ops =>
    cases hc
    simp only [exec, execStart, halted, ne_eq, reduceCtorEq, not_false_eq_true, if_true]
    exact leads_done.2 (refused _)
  | stop ops =>
    cases hc
    simp only [exec, execStop, halted, ne_eq, reduceCtorEq, not_false_eq_true, if_true]
    exact leads_done.2 (refused _)
  | rejoin ops =>
    cases hc
    simp only [exec, execRejoin, halted, reduceCtorEq, false_and, if_false]
    exact leads_done.2 (refused _)
  | unknownCommandCode code ops => exact leads_done.2 (.withReply _ s _ _)
  | _ => cases hc

/-- With the LIU OFF, nothing in flight and every timer stopped, nothing happens but a tick. -/
theorem exec_happening_halted (law : haltedLaw s) {c : Instr} (hc : operandsOf c = none) (noReset : c ≠ .fullReset) :
    Leads (HaltedStep c s) (exec c s) := by
  obtain ⟨entries, pulls, silence, announceTimer, inFlight, -, liu⟩ := law halted
  have idle : Leads (HaltedStep c s) (done s) := leads_done.2 (.idle c s)
  have phase : s.liu.phase = .off := by rw [liu]; rfl
  have contention : s.liu.contention = .none := by rw [liu]; rfl
  have mark : s.liu.markBits = 0 := by rw [liu]; rfl
  cases c with
  | fullReset => exact absurd rfl noReset
  | emptyTransaction => exact leads_done.2 (.replied _ s s.reply [])
  | stationTimeTick => exact leads_done.2 (.tick s _)
  | lineFree n => simpa [exec, execLineFree, countGap, phase] using idle
  | startBitCapture => simpa [exec, execStartBitCapture, phase] using idle
  | frameVerdictPoint levels => simpa [exec, execFrameVerdictPoint, phase] using idle
  | receivedFrameCompletion levels => simpa [exec, execReceivedFrameCompletion, phase] using idle
  | joinQuiet n => simpa [exec, execJoinQuiet, halted] using idle
  | ownFrameOutcome levels => simpa [exec, execOwnFrameOutcome, inFlight] using idle
  | faultFound levels => simpa [exec, execFaultFound, sends, contention, phase] using idle
  | lineRecovered levels => simpa [exec, execLineRecovered, recoveryStart, mark, phase] using idle
  | silentFrameEnd levels => simpa [exec, execSilentFrameEnd, phase] using idle
  | duplicateSighting levels => simpa [exec, execDuplicateSighting, takesRequests, halted] using idle
  | startBitOfAnotherStation => simpa [exec, execStartBitOfAnotherStation, phase] using idle
  | periodTimerExpiry i =>
    obtain ⟨period, -⟩ := entries i
    simpa [exec, execPeriodTimerExpiry, period] using idle
  | inhibitTimerExpiry i =>
    obtain ⟨-, inhibit, -⟩ := entries i
    simpa [exec, execInhibitTimerExpiry, inhibit] using idle
  | freshnessTimerExpiry i =>
    obtain ⟨-, -, fresh, -⟩ := entries i
    simpa [exec, execFreshnessTimerExpiry, fresh] using idle
  | holdTimerExpiry i =>
    obtain ⟨-, -, -, hold, -⟩ := entries i
    simpa [exec, execHoldTimerExpiry, hold] using idle
  | claimTimerExpiry i =>
    obtain ⟨-, -, -, -, claim, -⟩ := entries i
    simpa [exec, execClaimTimerExpiry, claim] using idle
  | pullReplyTimerExpiry i =>
    simp only [exec, execPullReplyTimerExpiry]
    split
    · exact idle
    · next p found =>
      obtain ⟨mem, -⟩ := findPull_spec found
      obtain ⟨stopped, -⟩ := pulls p mem
      simpa [stopped] using idle
  | silenceTimerExpiry st => simpa [exec, execSilenceTimerExpiry, silence] using idle
  | ownAnnounceTimerExpiry => simpa [exec, execOwnAnnounceTimerExpiry, announceTimer] using idle
  | _ => cases hc

end

/-- Settles O53: a command of the port is answered (`exec_port_halted`), and a happening meets an LIU that is OFF and
stopped timers (`exec_happening_halted`). -/
theorem haltedIsLeftByRestartAndResetAlone : Obligations.HaltedIsLeftByRestartAndResetAlone := by
  intro c s t law halted noReset noRestart ht
  have moved : HaltedStep c s t := by
    cases hc : operandsOf c with
    | some ops => exact exec_port_halted halted hc noRestart t ht
    | none => exact exec_happening_halted halted law hc noReset t ht
  exact ⟨moved.fields, moved.flags, moved.notices, moved.time, moved.entry⟩

end Sys2Proof.Machine
end

section
/-! SUPPORT. The Notice Queue (R168 to R173): the four cases of a posting, the refill that goes with a removal, and that
both keep the law of the queue. -/

namespace Sys2Proof.Machine

/-! ### The four cases of a posting (R169) -/

section
variable {s : State} {i : EntryIx} {rs : ReasonSet}

theorem post_recorded (reasons : rs ≠ 0) (recorded : ∃ n ∈ s.notices, n.entry = i) : post s i rs = { s with
    notices := s.notices.map fun n => if n.entry = i then ⟨i, n.reasons ||| rs⟩ else n } := by
  obtain ⟨n, mem, same⟩ := recorded
  have found : (s.notices.any fun n => decide (n.entry = i)) = true :=
    List.any_eq_true.2 ⟨n, mem, decide_eq_true same⟩
  have joined : s.notices.map (fun n => if n.entry = i then { n with reasons := n.reasons ||| rs } else n)
      = s.notices.map fun n => if n.entry = i then ⟨i, n.reasons ||| rs⟩ else n :=
    List.map_congr_left fun n _ => if_ctx_congr Iff.rfl (fun same => by rw [same]) fun _ => rfl
  rw [post, if_neg reasons, if_pos found, joined]

theorem any_entry_eq_false {l : List NoticeRecord} (absent : ∀ n ∈ l, n.entry ≠ i) :
    (l.any fun n => decide (n.entry = i)) = false :=
  List.any_eq_false.2 fun n mem same => absent n mem (of_decide_eq_true same)

theorem post_marked (reasons : rs ≠ 0) (absent : ∀ n ∈ s.notices, n.entry ≠ i) {d : ReasonSet}
    (marked : (s.rt i).deferred = some d) : post s i rs = { s with
      entries := s.entries.set i ⟨s.cfg i, { s.rt i with deferred := some (d ||| rs) }⟩ } := by
  rw [post, if_neg reasons, if_neg (Bool.eq_false_iff.1 (any_entry_eq_false absent)), marked]
  rfl

theorem post_room (reasons : rs ≠ 0) (absent : ∀ n ∈ s.notices, n.entry ≠ i) (unmarked : (s.rt i).deferred = none)
    (room : s.notices.length < 32) : post s i rs = { s with notices := s.notices ++ [⟨i, rs⟩] } := by
  rw [post, if_neg reasons, if_neg (Bool.eq_false_iff.1 (any_entry_eq_false absent)), unmarked]
  exact if_pos room

theorem post_full (reasons : rs ≠ 0) (absent : ∀ n ∈ s.notices, n.entry ≠ i) (unmarked : (s.rt i).deferred = none)
    (full : 32 ≤ s.notices.length) : post s i rs = { s with
      entries := s.entries.set i ⟨s.cfg i, { s.rt i with deferred := some rs }⟩
      flags := s.flags ||| 0x20 } := by
  rw [post, if_neg reasons, if_neg (Bool.eq_false_iff.1 (any_entry_eq_false absent)), unmarked]
  exact if_neg (Nat.not_lt.2 full)

end

/-! ### The law of the queue -/

/-- The law looks at the entries of the records and at the marks alone. -/
theorem noticeLaw_congr {s t : State} (law : noticeLaw s)
    (entries : t.notices.map (·.entry) = s.notices.map (·.entry))
    (marks : ∀ i, (t.rt i).deferred.isSome = (s.rt i).deferred.isSome) : noticeLaw t := by
  have length : t.notices.length = s.notices.length := by simpa using congrArg List.length entries
  unfold noticeLaw
  simp only [entries, length, marks]
  exact law

/-- A queue with room has no entry waiting for it. -/
theorem noticeLaw.unmarked {s : State} (law : noticeLaw s) (room : s.notices.length < 32) (i : EntryIx) :
    (s.rt i).deferred = none := by
  obtain ⟨-, -, marks⟩ := law
  by_contra marked
  obtain ⟨-, full⟩ := marks i (Option.isSome_iff_ne_none.2 marked)
  omega

theorem not_mem_entries {l : List NoticeRecord} {i : EntryIx} (absent : ∀ n ∈ l, n.entry ≠ i) :
    i ∉ l.map (·.entry) := fun mem => by
  obtain ⟨n, hn, same⟩ := List.mem_map.1 mem
  exact absent n hn same

/-- A record at the end of a queue in which its entry has none. -/
theorem nodup_entries_append {l : List NoticeRecord} (nodup : (l.map (·.entry)).Nodup) {n : NoticeRecord}
    (absent : n.entry ∉ l.map (·.entry)) : ((l ++ [n]).map (·.entry)).Nodup := by
  rw [List.map_append]
  exact nodup.append (List.nodup_singleton _) (List.disjoint_singleton.2 absent)

/-- Whichever of the four cases a posting falls in, it keeps the law. -/
theorem noticeLaw_post {s : State} (law : noticeLaw s) (i : EntryIx) (rs : ReasonSet) : noticeLaw (post s i rs) := by
  by_cases reasons : rs = 0
  · subst reasons
    have idle : post s i 0 = s := post_zero s i
    rwa [idle]
  by_cases recorded : ∃ n ∈ s.notices, n.entry = i
  · rw [post_recorded reasons recorded]
    refine noticeLaw_congr law ?_ fun _ => rfl
    simp only [List.map_map]
    refine List.map_congr_left fun n _ => ?_
    rw [Function.comp_apply]
    split
    · next same => exact same.symm
    · rfl
  have absent : ∀ n ∈ s.notices, n.entry ≠ i := fun n mem same => recorded ⟨n, mem, same⟩
  cases marked : (s.rt i).deferred with
  | some d =>
    rw [post_marked reasons absent marked]
    refine noticeLaw_congr law rfl fun j => ?_
    show ((s.modRt i fun r => { r with deferred := some (d ||| rs) }).rt j).deferred.isSome = _
    rw [State.modRt_rt]
    split
    · next same => rw [same, marked]; rfl
    · rfl
  | none =>
    obtain ⟨count, nodup, marks⟩ := id law
    by_cases room : s.notices.length < 32
    · rw [post_room reasons absent marked room]
      refine ⟨by simpa using room, nodup_entries_append nodup (not_mem_entries absent), fun j waits => ?_⟩
      have waits : (s.rt j).deferred.isSome = true := waits
      rw [law.unmarked room j] at waits
      cases waits
    · rw [post_full reasons absent marked (Nat.not_lt.1 room)]
      refine ⟨count, nodup, fun j waits => ?_⟩
      by_cases same : j = i
      · subst same
        exact ⟨not_mem_entries absent, Nat.le_antisymm count (Nat.not_lt.1 room)⟩
      · refine marks j ?_
        have kept : (s.modRt i fun r => { r with deferred := some rs }).rt j = s.rt j := State.modRt_rt_ne s _ same
        exact kept ▸ waits

/-- Settles O8: the cases are `post_recorded`, `post_marked`, `post_room` and `post_full`, and each keeps the law
(`noticeLaw_post`). -/
theorem postingFollowsTheFourCases : Obligations.PostingFollowsTheFourCases := fun _ i rs reasons =>
  ⟨post_recorded reasons, fun absent =>
    ⟨fun _ => post_marked reasons absent, post_room reasons absent, post_full reasons absent⟩,
    fun law => noticeLaw_post law i rs⟩

/-! ### The refill that goes with a removal (R172) -/

/-- The marks of a queue that was full, met after the removal of a record: the refill makes the queue lawful again. -/
theorem noticeLaw_refillNotices {s : State} (count : s.notices.length < 32) (nodup : (s.notices.map (·.entry)).Nodup)
    (marks : ∀ i, (s.rt i).deferred.isSome → i ∉ s.notices.map (·.entry) ∧ s.notices.length + 1 = 32) :
    noticeLaw (refillNotices s) := by
  unfold refillNotices
  split
  · next unmarked =>
    exact ⟨count.le, nodup, fun i waits => absurd waits (by simp [lowestEntry_eq_none.1 unmarked i])⟩
  · next i lowest =>
    obtain ⟨absent, full⟩ := marks i (lowestEntry_spec lowest)
    refine ⟨by simpa using count, nodup_entries_append nodup absent, fun j waits => ?_⟩
    have unmarked : (s.modRt i fun r => { r with deferred := none }).rt j =
        if j = i then { s.rt j with deferred := none } else s.rt j := State.modRt_rt s i j _
    have waits : ((s.modRt i fun r => { r with deferred := none }).rt j).deferred.isSome := waits
    rw [unmarked] at waits
    by_cases same : j = i
    · rw [if_pos same] at waits
      cases waits
    · rw [if_neg same] at waits
      obtain ⟨other, -⟩ := marks j waits
      simpa [same, full] using other

/-- The head record handed over, and the queue refilled. -/
theorem noticeLaw_next {s : State} (law : noticeLaw s) {n : NoticeRecord} {rest : List NoticeRecord}
    (queue : s.notices = n :: rest) : noticeLaw (refillNotices { s with notices := rest }) := by
  obtain ⟨count, nodup, marks⟩ := law
  rw [queue] at count nodup
  refine noticeLaw_refillNotices count (List.nodup_cons.1 nodup).2 fun i waits => ?_
  obtain ⟨absent, full⟩ := marks i waits
  rw [queue] at absent full
  exact ⟨fun mem => absent (List.mem_cons_of_mem _ mem), full⟩

/-- The record of an entry without the mark removed, if there is one, and the queue refilled. -/
theorem noticeLaw_removeNotice {s : State} (law : noticeLaw s) (i : EntryIx) : noticeLaw (removeNotice s i) := by
  by_cases present : ∃ n ∈ s.notices, n.entry = i
  · rw [removeNotice_present present]
    obtain ⟨count, nodup, marks⟩ := law
    have kept : (s.notices.filter fun n => decide (n.entry ≠ i)).map (·.entry) = (s.notices.map (·.entry)).erase i := by
      rw [nodup.erase_eq_filter, List.filter_map]
      exact congrArg _ (List.filter_congr fun n _ => by simp [bne, beq_eq_decide])
    have mem : i ∈ s.notices.map (·.entry) := List.mem_map.2 present
    have length : (s.notices.filter fun n => decide (n.entry ≠ i)).length + 1 = s.notices.length := by
      simpa using (congrArg (·.length + 1) kept).trans (List.length_erase_add_one mem)
    refine noticeLaw_refillNotices (Nat.lt_of_succ_le (length.trans_le count)) ?_ fun j waits => ?_
    · show (List.map _ _).Nodup
      rw [kept]
      exact nodup.erase i
    · obtain ⟨absent, full⟩ := marks j waits
      refine ⟨?_, length.trans full⟩
      show j ∉ List.map _ _
      rw [kept]
      exact fun other => absent (List.mem_of_mem_erase other)
  · rwa [removeNotice_absent fun n mem same => present ⟨n, mem, same⟩]

/-! ### NEXT-NOTICE (R173) -/

/-- A refill moves the queue and the entries alone. -/
theorem refillNotices_moves (s : State) : refillNotices s =
    { s with notices := (refillNotices s).notices, entries := (refillNotices s).entries } := by
  unfold refillNotices
  split <;> rfl

theorem exec_nextNotice_empty {s : State} (ops : List Byte) (queue : s.notices = []) :
    exec (.nextNotice ops) s = .next (withReply s ops s [0x01]) := by
  simp only [exec, execNextNotice, queue]
  rfl

/-- The reply tells of the entry as it stands: the refill leaves all but deferred reasons. -/
theorem exec_nextNotice_head {s t : State} (ops : List Byte) {n : NoticeRecord} {rest : List NoticeRecord}
    (queue : s.notices = n :: rest) (refilled : refillNotices { s with notices := rest } = t) :
    exec (.nextNotice ops) s = .next (withReply s ops { s with notices := t.notices, entries := t.entries }
      (noticeReply n (s.rt n.entry) t.notices.length)) := by
  have snapshot : t.rt n.entry = { s.rt n.entry with deferred := (t.rt n.entry).deferred } := by
    rw [← refilled]
    exact refillNotices_rt _ _
  have moved : t = { s with notices := t.notices, entries := t.entries } := by
    rw [← refilled]
    exact refillNotices_moves _
  have reply : noticeReply n (t.rt n.entry) = noticeReply n (s.rt n.entry) := by
    rw [snapshot]
    rfl
  simp only [exec, execNextNotice, queue, refilled, reply, ← moved]
  rfl

/-- Settles O7: the reply over the entry as it stands (`exec_nextNotice_head`), and the queue and the entries after the
refill (`refillNotices_unmarked`, `refillNotices_lowest`). -/
theorem nextNoticeHandsOverTheOldest : Obligations.NextNoticeHandsOverTheOldest := by
  refine ⟨fun ops _ queue => exec_nextNotice_empty ops queue, fun ops s n rest queue => ?_⟩
  obtain ⟨t, refilled⟩ : ∃ t, refillNotices { s with notices := rest } = t := ⟨_, rfl⟩
  refine ⟨t.notices, t.entries, exec_nextNotice_head ops queue refilled, fun unmarked => ?_, fun i d marked low => ?_⟩
  · rw [← refilled, refillNotices_unmarked (by exact unmarked)]
    exact ⟨rfl, rfl⟩
  · rw [← refilled, refillNotices_lowest (by exact marked) (by exact low)]
    exact ⟨rfl, rfl⟩

end Sys2Proof.Machine
end

section
/-! SUPPORT. The delivery records (R82 to R87): what the law asks of one record, station by station, and that the
opening, the accounting and the closing of a record keep it. -/

namespace Sys2Proof.Machine

/-! ### The law of one record -/

/-- What `deliveryLaw` asks of the configuration. -/
def attemptsLaw (c : ItemConfig) : Prop := c.required ≠ 0 → 1 ≤ c.attemptLimit ∧ c.attemptLimit ≤ 15

/-- What `deliveryLaw` asks of receipts and refused: disjoint, and of required receivers alone. -/
def setsLaw (required : StationSet) (d : Delivery) : Prop :=
  d.receipts &&& d.refused = 0 ∧ (d.receipts ||| d.refused) &&& ~~~required = 0

/-- What `deliveryLaw` asks of one record. -/
def recordLaw (c : ItemConfig) (d : Delivery) : Prop :=
  c.required ≠ 0 ∧ setsLaw c.required d ∧ d.attempts ≤ c.attemptLimit ∧
    (d.state = .opened → d.attempts < c.attemptLimit)

theorem deliveryLaw_iff (c : ItemConfig) (r : Runtime) :
    deliveryLaw c r ↔ attemptsLaw c ∧ ∀ d, r.delivery = some d → recordLaw c d := by
  simp only [deliveryLaw, attemptsLaw, recordLaw, setsLaw, and_assoc]

/-- The law looks at the delivery record alone, and an entry may lose it. -/
theorem deliveryLaw_of_delivery {c : ItemConfig} {r r' : Runtime} (law : deliveryLaw c r)
    (kept : r'.delivery = r.delivery ∨ r'.delivery = none) : deliveryLaw c r' := by
  obtain ⟨limit, record⟩ := (deliveryLaw_iff c r).1 law
  refine (deliveryLaw_iff c r').2 ⟨limit, fun d held => ?_⟩
  rcases kept with same | gone
  · exact record d (same ▸ held)
  · cases gone.symm.trans held

/-- A record opens with no attempt made and no slot read (R83). -/
theorem recordLaw_opened {c : ItemConfig} (limit : attemptsLaw c) (required : c.required ≠ 0) (version : Byte) :
    recordLaw c ⟨.opened, version, 0, 0, 0⟩ := by
  obtain ⟨positive, -⟩ := limit required
  exact ⟨required, ⟨BitVec.zero_and, by simp⟩, Nat.zero_le _, fun _ => positive⟩

/-! ### Station by station (R86) -/

theorem stationSet_eq_zero_iff (x : StationSet) : x = 0 ↔ ∀ st, inSet x st = false := by
  refine ⟨fun zero st => by rw [zero]; exact BitVec.getLsbD_zero, fun absent => ?_⟩
  refine BitVec.eq_of_getLsbD_eq fun k hk => ?_
  rw [show (0 : StationSet).getLsbD k = false from BitVec.getLsbD_zero]
  exact absent ⟨k, hk⟩

/-- No station is in both sets, and a station that is not required is in neither. -/
theorem setsLaw_iff (required : StationSet) (d : Delivery) : setsLaw required d ↔
    ∀ st, d.bits st ≠ (true, true) ∧ (inSet required st = false → d.bits st = (false, false)) := by
  have both : ∀ st, inSet (d.receipts &&& d.refused) st = false ↔ d.bits st ≠ (true, true) := fun st => by
    simp [inSet, Delivery.bits]
  have others : ∀ st, inSet ((d.receipts ||| d.refused) &&& ~~~required) st = false ↔
      (inSet required st = false → d.bits st = (false, false)) := fun st => by
    rw [inSet_and_not, inSet_or]
    cases inSet required st <;> simp [Delivery.bits]
  simp only [setsLaw, stationSet_eq_zero_iff, both, others, forall_and]

/-- No slot puts a station in both sets. -/
theorem SlotSymbol.read_disjoint (y : SlotSymbol) {b : Bool × Bool} (disjoint : b ≠ (true, true)) :
    y.read b ≠ (true, true) := by
  obtain ⟨receipt, refusal⟩ := b
  cases y
  case seen => cases receipt <;> simp_all [SlotSymbol.read]
  case taken => simp [SlotSymbol.read]
  case busy | absent => exact disjoint

/-- The accounting reads the slots of required receivers alone. -/
theorem setsLaw_account {c : ItemConfig} {d : Delivery} (law : setsLaw c.required d) (o : TxOutcome)
    (w : Option Window) : setsLaw c.required (account c d o w) := by
  by_cases read : ∃ x, o = .completed ∧ w = some x
  · obtain ⟨x, rfl, rfl⟩ := read
    refine (setsLaw_iff _ _).2 fun st => ?_
    obtain ⟨disjoint, others⟩ := (setsLaw_iff _ _).1 law st
    rw [account_completed_bits]
    split
    · next required => exact ⟨(x[st]).read_disjoint disjoint, fun other => absurd required (by simp [other])⟩
    · exact ⟨disjoint, others⟩
  · have unread : account c d o w = { d with attempts := countAfter d.attempts o } := by
      unfold account
      split
      · next x => exact absurd ⟨x, rfl, rfl⟩ read
      · rfl
    rw [unread]
    exact law

/-! ### Closed or kept (R87) -/

theorem closing_ne_opened {c : ItemConfig} {d : Delivery} {o : TxOutcome} {st : DeliveryState}
    (closes : closing c d o = some st) : st ≠ .opened := by
  rintro rfl
  cases counts : o.isAttempt with
  | false => rw [closing_of_not_attempt c counts] at closes; cases closes
  | true =>
    rw [closing_of_attempt c counts] at closes
    repeat' split at closes
    all_goals cases closes

/-- A record at its limit does not stay OPEN. -/
theorem attempts_lt_of_kept {c : ItemConfig} {d : Delivery} {o : TxOutcome} (counts : o.isAttempt = true)
    (limit : d.attempts ≤ c.attemptLimit) (kept : closing c d o = none) : d.attempts < c.attemptLimit := by
  refine lt_of_le_of_ne limit fun used => ?_
  rw [closing_of_attempt c counts, if_pos used] at kept
  repeat' split at kept
  all_goals cases kept

section
variable {c : ItemConfig} {d : Delivery} (law : recordLaw c d) (opened : d.state = .opened)
include law opened

/-- An OPEN record is below its limit, so that an attempt more is within it. -/
theorem account_attempts_le (o : TxOutcome) (w : Option Window) : (account c d o w).attempts ≤ c.attemptLimit := by
  obtain ⟨-, -, -, below⟩ := law
  obtain ⟨-, attempts⟩ := account_version_attempts c d o w
  have below := below opened
  rw [attempts, countAfter]
  split <;> omega

theorem recordLaw_closed {o : TxOutcome} {w : Option Window} {st : DeliveryState}
    (closes : closing c (account c d o w) o = some st) : recordLaw c { account c d o w with state := st } := by
  have limit := account_attempts_le law opened o w
  obtain ⟨required, sets, -⟩ := law
  exact ⟨required, setsLaw_account sets o w, limit, fun isOpen => absurd isOpen (closing_ne_opened closes)⟩

theorem recordLaw_kept {o : TxOutcome} {w : Option Window} (kept : closing c (account c d o w) o = none) :
    recordLaw c (account c d o w) := by
  have limit := account_attempts_le law opened o w
  obtain ⟨required, sets, -, below⟩ := law
  refine ⟨required, setsLaw_account sets o w, limit, fun _ => ?_⟩
  cases counts : o.isAttempt with
  | true => exact attempts_lt_of_kept counts limit kept
  | false =>
    obtain ⟨-, attempts⟩ := account_version_attempts c d o w
    rw [attempts, countAfter, counts]
    exact below opened

end

/-- What governs an outcome is the entry's own record, OPEN (R76, R84). -/
theorem governing_spec {r : Runtime} {captured : Byte} {d : Delivery} (h : governing r captured = some d) :
    r.delivery = some d ∧ d.state = .opened := by
  unfold governing at h
  split at h
  · next held =>
    split at h
    · next isOpen => cases h; exact ⟨held, isOpen.1⟩
    · cases h
  · cases h

/-! ### Where records and limits come from (R19, R83, R158) -/

/-- At reset values an entry holds no delivery record and no deferred reasons. -/
theorem resetRuntime_idle (c : ItemConfig) : (resetRuntime c).delivery = none ∧ (resetRuntime c).deferred = none := by
  unfold resetRuntime
  cases c.role <;> exact ⟨rfl, rfl⟩

theorem deliveryLaw_resetRuntime {c : ItemConfig} (limit : attemptsLaw c) : deliveryLaw c (resetRuntime c) :=
  (deliveryLaw_iff c _).2 ⟨limit, fun d held => by rw [(resetRuntime_idle c).1] at held; cases held⟩

/-- SET-ITEM stores an attempt limit in its range wherever there are required receivers. -/
theorem itemOperands_attemptsLaw {ops : List Byte} {c : ItemConfig} (named : itemOperands ops = some c) :
    attemptsLaw c := by
  by_cases unused : (byteAt ops 2).toNat = 0
  · rw [itemOperands_unused unused] at named
    cases named
    exact fun required => absurd rfl required
  · have good : ¬ itemOutOfRange ops := fun bad => by rw [itemOperands_eq_none.2 bad] at named; cases named
    obtain ⟨cls, found, range, stored⟩ := itemOperands_in_range unused good
    rw [stored] at named
    cases named
    obtain ⟨-, -, -, -, -, -, -, attempts, -⟩ := sentItem_stored range (itemClassOf_ne_system found)
    exact fun required => by rwa [if_neg required] at attempts

theorem deliveryLaw_write {c : ItemConfig} {r : Runtime} (law : deliveryLaw c r) (value : List Byte) :
    deliveryLaw c (writeRuntime c value r) := by
  by_cases required : c.required = 0
  · exact deliveryLaw_of_delivery law (.inl (if_neg (not_not.2 required)))
  · obtain ⟨limit, -⟩ := (deliveryLaw_iff c r).1 law
    refine (deliveryLaw_iff c _).2 ⟨limit, fun d held => ?_⟩
    cases (if_pos required).symm.trans held
    exact recordLaw_opened limit required _

end Sys2Proof.Machine
end

section
/-! SUPPORT. The laws of the Notice Queue and of the delivery records under the operations of the blocks: most leave the
queue and the deferred reasons and keep or drop a delivery record, and the others post. -/

namespace Sys2Proof.Machine

/-! ### Both laws, each where it is assumed -/

/-- The law of the Notice Queue holds where `q` does, and the law of the delivery records where `d` does: one pass over
the operations serves each law without the other. -/
structure Noticed (q d : Prop) (s : State) : Prop where
  queue : q → noticeLaw s
  delivery : d → ∀ i, deliveryLaw (s.cfg i) (s.rt i)

/-- An entry keeps its deferred reasons, and its delivery record unless it drops it. -/
structure Quiet (r r' : Runtime) : Prop where
  deferred : r'.deferred = r.deferred
  delivery : r'.delivery = r.delivery ∨ r'.delivery = none

theorem Quiet.refl (r : Runtime) : Quiet r r := ⟨rfl, .inl rfl⟩

/-- A choice between a quiet change and none is quiet. -/
theorem Quiet.ite {c : Prop} [Decidable c] {r r' : Runtime} (h : Quiet r r') : Quiet r (if c then r' else r) := by
  split
  · exact h
  · exact .refl r

/-- What the Pull Table does to an entry is quiet. -/
theorem Quiet.of_pull {r r' : Runtime} {wanted : Bool} {pending : PendingSet}
    (h : r' = { r with pullWanted := wanted, pending := pending }) : Quiet r r' := by
  rw [h]
  exact ⟨rfl, .inl rfl⟩

section
variable {q d : Prop} {s t : State} (h : Noticed q d s)
include h

/-- The queue and the deferred reasons are left, and every entry keeps the law of its record. -/
theorem Noticed.of_rt (notices : t.notices = s.notices) (cfg : ∀ i, t.cfg i = s.cfg i)
    (deferred : ∀ i, (t.rt i).deferred = (s.rt i).deferred)
    (delivery : ∀ i, deliveryLaw (s.cfg i) (s.rt i) → deliveryLaw (s.cfg i) (t.rt i)) : Noticed q d t where
  queue hq := noticeLaw_congr (h.queue hq) (by rw [notices]) fun i => by rw [deferred]
  delivery hd i := by
    rw [cfg]
    exact delivery i (h.delivery hd i)

theorem Noticed.of_quiet (notices : t.notices = s.notices) (cfg : ∀ i, t.cfg i = s.cfg i)
    (rt : ∀ i, Quiet (s.rt i) (t.rt i)) : Noticed q d t :=
  h.of_rt notices cfg (fun i => (rt i).deferred) fun i law => deliveryLaw_of_delivery law (rt i).delivery

theorem Noticed.of_eq (entries : t.entries = s.entries) (notices : t.notices = s.notices) : Noticed q d t :=
  h.of_quiet notices (State.cfg_congr entries) fun i => by rw [State.rt_congr entries]; exact .refl _

/-- In a chain of operations `f` is known last, so that `quiet` is proved there by `exact`. -/
theorem Noticed.modRt {i : EntryIx} {f : Runtime → Runtime} (quiet : ∀ r, Quiet r (f r)) : Noticed q d (s.modRt i f) :=
  h.of_quiet (by simp) (by simp) fun j => by
    rw [State.modRt_rt]
    exact (quiet _).ite

theorem Noticed.mapRt {f : EntryIx → ItemConfig → Runtime → Runtime} (quiet : ∀ i c r, Quiet r (f i c r)) :
    Noticed q d (s.mapRt f) :=
  h.of_quiet (by simp) (by simp) fun j => by
    rw [State.mapRt_rt]
    exact quiet _ _ _

/-- The record of one entry replaced under its law. -/
theorem Noticed.deliver {i : EntryIx} {f : Runtime → Runtime} (deferred : ∀ r, (f r).deferred = r.deferred)
    (law : deliveryLaw (s.cfg i) (s.rt i) → deliveryLaw (s.cfg i) (f (s.rt i))) : Noticed q d (s.modRt i f) := by
  refine h.of_rt (by simp) (by simp) (fun j => ?_) fun j held => ?_
  · rw [State.modRt_rt]
    split
    · exact deferred _
    · rfl
  · rw [State.modRt_rt]
    split
    · next same => subst same; exact law held
    · exact held

/-! ### Posting, requests and records -/

theorem Noticed.post {i : EntryIx} {rs : ReasonSet} : Noticed q d (post s i rs) where
  queue hq := noticeLaw_post (h.queue hq) i rs
  delivery hd j := by
    rw [post_cfg, post_rt]
    exact h.delivery hd j

theorem Noticed.postAll {is : List EntryIx} {rs : ReasonSet} :
    Noticed q d (is.foldl (fun s i => Machine.post s i rs) s) :=
  foldl_inv _ _ (fun _ _ hs => hs.post) _ h

theorem Noticed.withReply {u : State} {ops : List Byte} {r : List Byte} : Noticed q d (withReply u ops s r) :=
  h.of_eq rfl rfl

theorem Noticed.refuse {ops : List Byte} {st : Status} : Noticed q d (refuse s ops st) := h.withReply

theorem Noticed.withLiu {l : Liu} : Noticed q d { s with liu := l } := h.of_eq rfl rfl

theorem Noticed.raisePublish {i : EntryIx} : Noticed q d (raisePublish s i) :=
  h.modRt fun _ => .ite ⟨rfl, .inl rfl⟩

theorem Noticed.modPull {i : EntryIx} {f : PullRecord → PullRecord} : Noticed q d (modPull s i f) := h.of_eq rfl rfl

theorem Noticed.raisePull {i : EntryIx} : Noticed q d (raisePull s i) := h.modRt fun _ => ⟨rfl, .inl rfl⟩

theorem Noticed.addPull {i : EntryIx} : Noticed q d (addPull s i) :=
  h.of_quiet (by simp) (by simp) fun j => .of_pull (addPull_rt s i j)

theorem Noticed.removePull {i : EntryIx} : Noticed q d (removePull s i) :=
  h.of_quiet (by simp) (by simp) fun j => .of_pull (removePull_rt s i j)

theorem Noticed.takeAutoPulls {is : List EntryIx} : Noticed q d (takeAutoPulls s is) :=
  h.of_quiet (by simp) (by simp) fun j => .of_pull (takeAutoPulls_rt s is j)

theorem Noticed.requestAutoPull {i : EntryIx} : Noticed q d (requestAutoPull s i) := by
  unfold Machine.requestAutoPull
  split
  · exact h.of_quiet (by simp) (by simp) fun j => .of_pull (takeAutoPull_rt s i j)
  · exact h

/-! ### Changes of role (section 1.6) -/

theorem Noticed.enterPublisher {i : EntryIx} {g v : Byte} {x : Vector Byte 12} :
    Noticed q d (enterPublisher s i g v x) :=
  (h.removePull.modRt fun _ => by exact ⟨rfl, .inr rfl⟩).post

theorem Noticed.adopt {i : EntryIx} : Noticed q d (adopt s i) := h.enterPublisher

theorem Noticed.enterYielding {i : EntryIx} {st : Station} : Noticed q d (enterYielding s i st) :=
  h.modRt fun _ => ⟨rfl, .inl rfl⟩

theorem Noticed.failYield {i : EntryIx} : Noticed q d (failYield s i) :=
  (h.modRt fun _ => by exact ⟨rfl, .inl rfl⟩).post

theorem Noticed.enterMirror {i : EntryIx} {st : Station} {g v : Byte} {x : Vector Byte 12} :
    Noticed q d (enterMirror s i st g v x) :=
  h.modRt fun _ => ⟨rfl, .inr rfl⟩

theorem Noticed.endClaim {i : EntryIx} {reason : Reason} : Noticed q d (endClaim s i reason) := by
  unfold Machine.endClaim
  dsimp only
  split
  · exact (h.modRt fun _ => by exact ⟨rfl, .inl rfl⟩).post.requestAutoPull
  · exact (h.modRt fun _ => by exact ⟨rfl, .inl rfl⟩).post

theorem Noticed.takeClaim {i : EntryIx} : Noticed q d (takeClaim s i) := h.removePull.modRt fun _ => ⟨rfl, .inl rfl⟩

/-! ### Lifecycle, score and roster -/

theorem Noticed.halt : Noticed q d (halt s) := by
  have ended := (h.mapRt (f := fun _ _ r => haltRuntime r) fun _ _ _ => ⟨rfl, .inl rfl⟩).postAll
    (is := entriesWhere fun i => decide ((s.rt i).role = .claiming)) (rs := Reason.claimTimeout.alone)
  unfold Machine.halt
  exact ended.of_eq (by simp only [setFlag_entries, State.mapRoster_entries])
    (by simp only [setFlag_notices, State.mapRoster_notices])

theorem Noticed.enterOnline : Noticed q d (enterOnline s) := by
  have online : Noticed q d { s with lifecycle := .online } := h.of_eq rfl rfl
  have started := online.mapRt (f := fun _ c r =>
    if r.role = .publisher then { r with periodTimer := periodOnEntry { s with lifecycle := .online } c } else r)
    fun _ _ _ => .ite ⟨rfl, .inl rfl⟩
  exact started.of_eq (by simp [Machine.enterOnline]) (by simp [Machine.enterOnline])

theorem Noticed.enterLeaving : Noticed q d (enterLeaving s) := by
  have stopped := h.mapRt (f := fun _ _ r => { r with periodTimer := none }) fun _ _ _ => ⟨rfl, .inl rfl⟩
  exact stopped.of_eq (by simp [Machine.enterLeaving]) (by simp [Machine.enterLeaving])

theorem Noticed.reportStanding : Noticed q d (reportStanding s) := by
  unfold Machine.reportStanding
  split
  · exact h.halt
  · exact h.of_eq (by simp) (by simp)

theorem Noticed.betweenFrames {w : Option Window} : Noticed q d (betweenFrames s w) := h.withLiu

theorem Noticed.countJoinQuiet {l : List Level} : Noticed q d (countJoinQuiet s l) := h.of_eq (by simp) (by simp)

theorem Noticed.takeEvidence {source : Option Station} {w : Window} : Noticed q d (takeEvidence s source w) :=
  h.of_eq (by simp) (by simp)

theorem Noticed.setRecord {st : Station} {r : RosterRecord} : Noticed q d (setRecord s st r) :=
  h.of_eq (by simp) (by simp)

theorem Noticed.restartAnnounceTimer : Noticed q d (restartAnnounceTimer s) := h.of_eq (by simp) (by simp)

/-! ### Orphaning and the loss report (R134, R136) -/

theorem Noticed.orphan {st : Station} : Noticed q d (orphan s st) := by
  have marked := h.mapRt (f := fun _ _ r => if orphanHits st r then orphanRuntime r else r)
    fun _ _ _ => .ite ⟨rfl, .inl rfl⟩
  unfold Machine.orphan
  exact marked.postAll.takeAutoPulls

theorem Noticed.reportLoss {st : Station} : Noticed q d (reportLoss s st) :=
  foldl_inv _ _ (fun _ _ hs => hs.failYield) _ h

theorem Noticed.orphanAndReport {st : Station} : Noticed q d (orphanAndReport s st) := by
  have drawn : Noticed q d { s with draws := s.draws + 1 } := h.of_eq rfl rfl
  unfold Machine.orphanAndReport
  split
  · dsimp only
    split
    · exact drawn.reportLoss.orphan
    · exact drawn.orphan.reportLoss
  · exact h.orphan.reportLoss

theorem Noticed.hearAnnounce {st : Station} {t : AnnounceType} {w : Window} : Noticed q d (hearAnnounce s st t w) := by
  unfold Machine.hearAnnounce
  cases t with
  | join => exact h.takeEvidence.setRecord.orphan
  | present => exact h.takeEvidence.setRecord
  | leave => exact h.takeEvidence.setRecord.orphanAndReport

/-! ### Verdicts at completion and the merge watch -/

theorem Noticed.applyAccept {i : EntryIx} {st : Station} {b : FrameBody} {rs : ReasonSet} :
    Noticed q d (applyAccept s i st b rs) := by
  unfold Machine.applyAccept
  split
  · exact (h.modRt fun _ => by exact ⟨rfl, .inl rfl⟩).removePull.post
  · exact h

theorem Noticed.applyRefresh {i : EntryIx} {st : Station} {b : FrameBody} : Noticed q d (applyRefresh s i st b) := by
  have refreshed : Noticed q d (s.modRt i (refreshRuntime s.time (s.cfg i) st)) := h.modRt fun _ => ⟨rfl, .inl rfl⟩
  unfold Machine.applyRefresh
  split
  · split
    · exact refreshed.removePull.post
    · exact refreshed.removePull.post
    all_goals exact h.applyAccept
  · exact h

theorem Noticed.applyCede {i : EntryIx} {v : VerdictRecord} : Noticed q d (applyCede s i v) := by
  unfold Machine.applyCede
  split
  · dsimp only
    repeat' split
    · exact h.enterYielding.post
    all_goals exact h.enterYielding
  · exact h

theorem Noticed.applyAssume {i : EntryIx} {v : VerdictRecord} : Noticed q d (applyAssume s i v) := by
  unfold Machine.applyAssume
  split
  · exact h.enterPublisher
  · exact h

theorem Noticed.applyDepose {i : EntryIx} {v : VerdictRecord} : Noticed q d (applyDepose s i v) := by
  unfold Machine.applyDepose
  split
  · exact h.enterMirror.post
  · exact h

theorem Noticed.applyVerdict {v : VerdictRecord} : Noticed q d (applyVerdict s v) := by
  unfold Machine.applyVerdict
  split
  · exact h
  · split
    · exact h.applyAccept
    · exact h.applyRefresh
    · exact h.post
    · exact h
    · exact h
    · exact h.raisePublish
    · exact h.applyCede
    · exact h.applyAssume
    · exact h.applyDepose
    · exact h.post.raisePublish
    · exact h.post

theorem Noticed.pullUnanswered {i : EntryIx} : Noticed q d (pullUnanswered s i) := h.removePull.post

theorem Noticed.judgePullWindow {i : EntryIx} {w : Window} : Noticed q d (judgePullWindow s i w) := by
  unfold Machine.judgePullWindow
  split
  · exact h.modPull.modRt fun _ => ⟨rfl, .inl rfl⟩
  · exact h.pullUnanswered

theorem Noticed.endMergeWatch {v : VerdictRecord} {w : Window} : Noticed q d (endMergeWatch s v w) := by
  unfold Machine.endMergeWatch judgeMergeWatch
  repeat' split
  · exact h.judgePullWindow
  all_goals exact h

theorem Noticed.abandonMergeWatch : Noticed q d (abandonMergeWatch s) := by
  unfold Machine.abandonMergeWatch
  repeat' split
  · exact h
  · exact h.modPull
  · exact h.pullUnanswered

/-! ### Capture and outcomes -/

theorem Noticed.capture {q' : Request} : Noticed q d (capture s q') := by
  have left : Noticed q d (leaveSet s q') := by
    unfold leaveSet
    cases q' with
    | publish i => exact h.modRt fun _ => ⟨rfl, .inl rfl⟩
    | pull i => exact (h.modRt fun _ => by exact ⟨rfl, .inl rfl⟩).modPull
    | claim i => exact h.modRt fun _ => ⟨rfl, .inl rfl⟩
    | yield i => exact h.modRt fun _ => ⟨rfl, .inl rfl⟩
    | announce t => exact h.of_eq rfl rfl
  exact left.of_eq rfl rfl

theorem Noticed.returnPublish {i : EntryIx} {n : Nat} : Noticed q d (returnPublish s i n) :=
  h.modRt fun _ => .ite ⟨rfl, .inl rfl⟩

/-- The entry's record is the one that governs, and is replaced by what the accounting makes of it, closed or kept. -/
theorem Noticed.governedPublish {i : EntryIx} {r : Delivery} {n : Nat} {o : TxOutcome} {w : Option Window}
    (held : (s.rt i).delivery = some r) (opened : r.state = .opened) : Noticed q d (governedPublish s i r n o w) := by
  have accounted : ∀ r', (recordLaw (s.cfg i) r → recordLaw (s.cfg i) r') →
      Noticed q d (s.modRt i fun x => { x with delivery := some r' }) := fun r' law =>
    h.deliver (fun _ => rfl) fun whole => by
      obtain ⟨limit, record⟩ := (deliveryLaw_iff _ _).1 whole
      exact (deliveryLaw_iff _ _).2 ⟨limit, fun _ same => Option.some.inj same ▸ law (record r held)⟩
  unfold Machine.governedPublish
  dsimp only
  split
  · next st closes => exact (accounted _ fun law => recordLaw_closed law opened closes).post
  · next kept => exact (accounted _ fun law => recordLaw_kept law opened kept).returnPublish

theorem Noticed.publishOutcome {i : EntryIx} {n : Nat} {captured : Byte} {o : TxOutcome} {w : Option Window} :
    Noticed q d (publishOutcome s i n captured o w) := by
  have inhibited : Noticed q d (startInhibit s i o) := h.modRt fun _ => .ite ⟨rfl, .inl rfl⟩
  unfold Machine.publishOutcome
  dsimp only
  split
  · next r governs =>
    obtain ⟨held, opened⟩ := governing_spec governs
    exact inhibited.governedPublish held opened
  · unfold unconfirmedPublish
    split
    · exact inhibited
    · exact inhibited.returnPublish
    · exact inhibited.returnPublish
    all_goals
      repeat' split
      · exact inhibited.returnPublish
      · exact inhibited.post
      · exact inhibited

/-- An announce that returns is all an ANNOUNCE outcome changes. -/
theorem Noticed.announceOutcome {t : AnnounceType} {n : Nat} {o : TxOutcome} :
    Noticed q d (announceOutcome s t n o).1 := by
  have left : (Machine.announceOutcome s t n o).1.entries = s.entries ∧
      (Machine.announceOutcome s t n o).1.notices = s.notices := by
    unfold Machine.announceOutcome returnAnnounce
    repeat' split
    all_goals exact ⟨rfl, rfl⟩
  obtain ⟨entries, notices⟩ := left
  exact h.of_eq entries notices

theorem Noticed.keepPull {i : EntryIx} {f : PullRecord → PullRecord} : Noticed q d (keepPull s i f) :=
  h.modPull.raisePull

theorem Noticed.pullOutcome {i : EntryIx} {o : TxOutcome} {w : Option Window} : Noticed q d (pullOutcome s i o w) := by
  unfold Machine.pullOutcome
  split
  · exact h
  · split
    · split
      · exact h.modPull.judgePullWindow
      · exact h.pullUnanswered
      · split
        · exact h.keepPull
        · exact h.pullUnanswered
      · exact h.keepPull
      · exact h.keepPull
    · exact h

theorem Noticed.keepClaim {i : EntryIx} : Noticed q d (keepClaim s i) := h.modRt fun _ => ⟨rfl, .inl rfl⟩

theorem Noticed.claimCompleted {i : EntryIx} {k : ClaimKind} {w : Window} : Noticed q d (claimCompleted s i k w) := by
  unfold Machine.claimCompleted
  repeat' split
  · exact h
  · exact h.adopt
  · exact h.endClaim
  · exact h.keepClaim
  · exact h.keepClaim

theorem Noticed.claimOutcome {i : EntryIx} {o : TxOutcome} {w : Option Window} :
    Noticed q d (claimOutcome s i o w) := by
  unfold Machine.claimOutcome
  split
  · exact h
  · next c _ =>
    split
    · have unmarked : Noticed q d (s.modRt i fun r => { r with claim := some { c with frameMark := false } }) :=
        h.modRt fun _ => ⟨rfl, .inl rfl⟩
      dsimp only
      split
      · exact unmarked.claimCompleted
      · split
        · exact unmarked.keepClaim
        · exact unmarked.adopt
      · exact unmarked.keepClaim
      · exact unmarked.keepClaim
      · exact unmarked.endClaim
    · exact h

theorem Noticed.keepYield {i : EntryIx} {n : Nat} : Noticed q d (keepYield s i n) := h.modRt fun _ => ⟨rfl, .inl rfl⟩

theorem Noticed.retryYield {i : EntryIx} {n : Nat} : Noticed q d (retryYield s i n) := by
  unfold Machine.retryYield
  split
  · exact h.keepYield
  · exact h.failYield

theorem Noticed.yieldOutcome {i : EntryIx} {o : TxOutcome} {w : Option Window} :
    Noticed q d (yieldOutcome s i o w) := by
  unfold Machine.yieldOutcome
  split
  · exact h
  · split
    · dsimp only
      split
      · split
        · exact h.enterMirror.post
        · exact h.failYield
        · exact h.retryYield
        · exact h.retryYield
      · exact h.retryYield
      · exact h.retryYield
      · exact h.keepYield
      · exact h.keepYield
    · exact h

theorem Noticed.fcuOutcome {o : TxOutcome} : Noticed q d (fcuOutcome s o) := by
  unfold Machine.fcuOutcome
  split
  · exact h.of_eq (by simp) (by simp)
  · exact h.of_eq (by simp) (by simp)

theorem Noticed.outcomeEvidence {o : TxOutcome} {w : Option Window} : Noticed q d (outcomeEvidence s o w) := by
  unfold Machine.outcomeEvidence
  split
  · exact h.takeEvidence.restartAnnounceTimer
  · exact h.takeEvidence
  · exact h

theorem Noticed.ownerOutcome {fl : InFlight} {o : TxOutcome} {w : Option Window} :
    Noticed q d (ownerOutcome s fl o w).1 := by
  unfold Machine.ownerOutcome
  split
  · exact h.publishOutcome
  · exact h.pullOutcome
  · exact h.claimOutcome
  · exact h.yieldOutcome
  · exact h.announceOutcome

theorem Noticed.afterOutcome {leaveOver : Bool} : Noticed q d (afterOutcome s leaveOver) := by
  unfold Machine.afterOutcome
  split
  · exact h.halt
  · exact h.reportStanding

theorem Noticed.handleOutcome {fl : InFlight} {o : TxOutcome} {w : Option Window} :
    Noticed q d (handleOutcome s fl o w) := by
  have landed : Noticed q d { s with inFlight := none } := h.of_eq rfl rfl
  exact landed.fcuOutcome.outcomeEvidence.ownerOutcome.afterOutcome

/-! ### A received frame completed, or found faulty -/

theorem Noticed.completionEvidence {f : Frame} {w : Window} : Noticed q d (completionEvidence s f w) := by
  unfold Machine.completionEvidence
  split
  · exact h.hearAnnounce
  all_goals exact h.takeEvidence

theorem Noticed.scoreCompletion : Noticed q d (scoreCompletion s) := h.of_eq (by simp) (by simp)

theorem Noticed.afterAnswer {driven : Bool} : Noticed q d (afterAnswer s driven) := by
  unfold Machine.afterAnswer
  split
  · exact h.restartAnnounceTimer
  · exact h

theorem Noticed.afterCompletion : Noticed q d (afterCompletion s) := by
  unfold Machine.afterCompletion
  split
  · exact h.enterOnline
  · exact h

theorem Noticed.presentCompletion {v : VerdictRecord} {w : Window} : Noticed q d (presentCompletion s v w) := by
  have dropped : Noticed q d { s with verdict := none } := h.of_eq rfl rfl
  exact dropped.applyVerdict.endMergeWatch.completionEvidence.scoreCompletion.afterAnswer.afterCompletion

theorem Noticed.receiverFault {levels : List Level} {k : FaultKind} : Noticed q d (receiverFault s levels k) := by
  have left : Noticed q d { liuOnFault (Machine.countJoinQuiet s levels) (s.liu.sampled ++ levels) k with
      verdict := none } := h.countJoinQuiet.of_eq rfl rfl
  have scored : Noticed q d (scoreReceiverFault (Machine.abandonMergeWatch
      { liuOnFault (Machine.countJoinQuiet s levels) (s.liu.sampled ++ levels) k with verdict := none }) k) :=
    left.abandonMergeWatch.of_eq (by simp) (by simp)
  exact scored.reportStanding

theorem Noticed.sampleOn {levels : List Level} {phase : LiuPhase} : Noticed q d (sampleOn s levels phase) :=
  h.countJoinQuiet.withLiu

theorem Noticed.countGap {n : Nat} : Noticed q d (countGap s n) := by
  unfold Machine.countGap
  split
  · exact h.withLiu
  · exact h

theorem Noticed.liuAfterOutcome {levels : List Level} {o : TxOutcome} {w : Option Window} :
    Noticed q d (liuAfterOutcome s levels o w) := by
  unfold Machine.liuAfterOutcome
  split
  · exact h.withLiu
  · exact h.withLiu
  all_goals exact h.betweenFrames

end

end Sys2Proof.Machine
end

section
/-! SUPPORT. Every command keeps the law of the Notice Queue and the law of the delivery records (R169, R171, R82,
R85). -/

namespace Sys2Proof.Machine

/-! ### Entries at reset values (R19, R158, R166) -/

/-- Right after a reset of every entry and of the queue. -/
theorem noticed_of_reset {q d : Prop} {s : State} (notices : s.notices = []) (rt : ∀ i, s.rt i = resetRuntime (s.cfg i))
    (limits : d → ∀ i, attemptsLaw (s.cfg i)) : Noticed q d s where
  queue _ := by
    refine ⟨by simp [notices], by simp [notices], fun i marked => ?_⟩
    rw [rt, (resetRuntime_idle _).2] at marked
    cases marked
  delivery hd i := by
    rw [rt]
    exact deliveryLaw_resetRuntime (limits hd i)

/-- An entry replaced by one without the deferred mark. -/
theorem noticeLaw_setEntry {s : State} (law : noticeLaw s) (i : EntryIx) {e : Entry} (unmarked : e.rt.deferred = none) :
    noticeLaw (s.setEntry i e) := by
  obtain ⟨count, nodup, marks⟩ := law
  refine ⟨count, nodup, fun j marked => ?_⟩
  by_cases same : j = i
  · rw [same, (State.setEntry_self s i e).2, unmarked] at marked
    cases marked
  · rw [(State.setEntry_ne s e same).2] at marked
    exact marks j marked

section
variable {q d : Prop} {s : State} (h : Noticed q d s)
include h

theorem Noticed.attemptsLaw (hd : d) (i : EntryIx) : attemptsLaw (s.cfg i) :=
  ((deliveryLaw_iff _ _).1 (h.delivery hd i)).1

/-- A stored entry is at reset values, and its notice record goes. -/
theorem Noticed.storeItem {i : EntryIx} {c : ItemConfig} (limit : Machine.attemptsLaw c) :
    Noticed q d (storeItem s i c) where
  queue hq := noticeLaw_removeNotice (noticeLaw_setEntry (h.queue hq) i (resetRuntime_idle c).2) i
  delivery hd j := by
    rw [storeItem_cfg, storeItem_rt]
    split
    · exact deliveryLaw_resetRuntime limit
    · exact h.delivery hd j

theorem Noticed.startStation : Noticed q d (startStation s) := by
  have rt : ∀ i, (Machine.startStation s).rt i = resetRuntime (s.cfg i) :=
    State.mapRt_rt s fun _ c _ => resetRuntime c
  have cfg : ∀ i, (Machine.startStation s).cfg i = s.cfg i := State.mapRt_cfg s fun _ c _ => resetRuntime c
  exact noticed_of_reset rfl (fun i => by rw [rt, cfg]) fun hd i => by
    rw [cfg]
    exact h.attemptsLaw hd i

theorem Noticed.clearRuntime : Noticed q d (clearRuntime s) :=
  noticed_of_reset rfl (fun i => by rw [clearRuntime_rt, clearRuntime_cfg]) fun hd i => by
    rw [clearRuntime_cfg]
    exact h.attemptsLaw hd i

/-! ### The commands -/

/-- The head record goes and the lowest deferred entry takes its place. -/
theorem Noticed.nextNotice {n : NoticeRecord} {rest : List NoticeRecord} (queue : s.notices = n :: rest) :
    Noticed q d (refillNotices { s with notices := rest }) where
  queue hq := noticeLaw_next (h.queue hq) queue
  delivery hd i := by
    rw [refillNotices_cfg, refillNotices_rt]
    exact h.delivery hd i

/-- The running out of a timer, due or not. -/
theorem Noticed.ifDue {t : State} {now : Time} {x : Timer} (ran : Noticed q d t) :
    Leads (Noticed q d) (if timerDue now x then done t else done s) := by
  split
  · exact leads_done.2 ran
  · exact leads_done.2 h

theorem Noticed.exec_port {c : Instr} {ops : List Byte} (hc : operandsOf c = some ops) :
    Leads (Noticed q d) (exec c s) := by
  have refused : ∀ ops st, Noticed q d (Machine.refuse s ops st) := fun _ _ => h.refuse
  cases c with
  | nop ops => exact leads_done.2 (h.of_eq rfl rfl)
  | status ops => exact leads_done.2 (h.of_eq rfl rfl)
  | nextNotice ops =>
    simp only [exec, execNextNotice]
    split
    · exact leads_done.2 (refused _ _)
    · next n rest queue => exact leads_done.2 (h.nextNotice queue).withReply
  | read ops => exact leads_done.2 (onEntry_of (refused _) fun _ _ => h.withReply)
  | readDelivery ops => exact leads_done.2 (onEntry_of (refused _) fun _ _ => h.withReply)
  | readRoster ops => exact leads_done.2 h.withReply
  | write ops =>
    have written : ∀ i value, Noticed q d (s.modRt i (writeRuntime (s.cfg i) value)) := fun _ value =>
      h.deliver (fun _ => rfl) fun law => deliveryLaw_write law value
    refine leads_done.2 (onEntry_of (refused _) fun i _ => ?_)
    repeat' split
    · exact refused _ _
    · exact (written _ _).withReply
    · exact refused _ _
  | hold ops =>
    have drawn : Noticed q d (holdLimit s).2 := by
      unfold holdLimit
      split
      · exact h
      · exact h.of_eq rfl rfl
    refine leads_done.2 (onEntry_of (refused _) fun i _ => ?_)
    split
    · exact (drawn.modRt fun _ => by exact ⟨rfl, .inl rfl⟩).withReply
    · exact refused _ _
  | release ops =>
    refine leads_done.2 (onEntry_of (refused _) fun i _ => ?_)
    split
    · exact (h.modRt fun _ => by exact .ite ⟨rfl, .inl rfl⟩).withReply
    · exact refused _ _
  | pull ops =>
    refine leads_done.2 (onEntry_of (refused _) fun i _ => ?_)
    repeat' split
    · exact h.withReply
    · exact h.addPull.withReply
    · exact refused _ _
    · exact refused _ _
  | claim ops =>
    refine leads_done.2 (onEntry_of (refused _) fun i _ => ?_)
    split
    · exact h.takeClaim.withReply
    · exact refused _ _
  | setStation ops =>
    refine execSetStation_cases.imp ?_
    rintro t (⟨st, rfl⟩ | ⟨-, p, rfl⟩)
    · exact refused _ _
    · exact h.of_eq rfl rfl
  | setItem ops =>
    refine execSetItem_cases.imp ?_
    rintro t (⟨st, rfl⟩ | ⟨-, i, c, named, -, rfl⟩)
    · exact refused _ _
    · exact (h.storeItem (itemOperands_attemptsLaw named)).withReply
  | start ops =>
    simp only [exec, execStart]
    repeat' split
    · exact leads_done.2 (refused _ _)
    · exact leads_done.2 h.withReply
    · exact leads_done.2 h.startStation.withReply
  | stop ops =>
    simp only [exec, execStop]
    repeat' split
    · exact leads_done.2 (refused _ _)
    · exact leads_done.2 h.halt.withReply
    · exact leads_done.2 h.enterLeaving.withReply
  | rejoin ops =>
    have rejoined : Noticed q d (leaveMuted s 119) := h.of_eq (by simp) (by simp)
    simp only [exec, execRejoin]
    split
    · exact leads_done.2 rejoined.withReply
    · exact leads_done.2 (refused _ _)
  | restart ops => exact leads_done.2 h.clearRuntime.withReply
  | unknownCommandCode code ops => exact leads_done.2 (refused _ _)
  | _ => cases hc

/-- What happens on the line, and the running out of each timer. -/
theorem Noticed.exec_happening {c : Instr} (hc : operandsOf c = none) : Leads (Noticed q d) (exec c s) := by
  have idle : Leads (Noticed q d) (done s) := leads_done.2 h
  cases c with
  | emptyTransaction => exact leads_done.2 (h.of_eq rfl rfl)
  | fullReset =>
    have reset : Noticed q d State.reset := ⟨fun _ => noticeLaw_reset, fun _ => deliveryLaw_reset⟩
    exact leads_done.2 (reset.of_eq rfl rfl)
  | stationTimeTick => exact leads_done.2 (h.of_eq rfl rfl)
  | lineFree n =>
    have counted := h.countGap (n := n)
    simp only [exec, execLineFree]
    split
    · exact leads_done.2 counted.withLiu
    · exact leads_done.2 counted
  | startBitCapture =>
    simp only [exec, execStartBitCapture]
    repeat' split
    · exact idle
    · exact leads_done.2 h.capture.withLiu
    · exact idle
  | frameVerdictPoint levels =>
    have sampled : Noticed q d (Machine.sampleOn s levels .window) := h.sampleOn
    simp only [exec, execFrameVerdictPoint]
    repeat' split
    · exact idle
    · exact leads_done.2 (sampled.of_eq rfl rfl)
    · exact leads_done.2 h.sampleOn
    · exact idle
    · exact idle
  | receivedFrameCompletion levels =>
    simp only [exec, execReceivedFrameCompletion]
    split
    · split
      · exact idle
      · repeat' split
        · exact leads_done.2 h.countJoinQuiet.betweenFrames.presentCompletion
        · exact idle
        · exact leads_done.2 h.sampleOn
        · exact idle
    · exact idle
  | joinQuiet n =>
    have counted := h.countGap (n := n)
    simp only [exec, execJoinQuiet]
    repeat' split
    · exact leads_done.2 counted.withLiu.enterOnline
    · exact leads_done.2 counted.withLiu
    · exact idle
  | ownFrameOutcome levels =>
    simp only [exec, execOwnFrameOutcome]
    repeat' split
    · exact idle
    · exact leads_done.2 h.handleOutcome
    · exact idle
    · exact leads_done.2 h.liuAfterOutcome.handleOutcome
    · exact leads_done.2 h.sampleOn
    · exact idle
    · exact idle
  | faultFound levels =>
    simp only [exec, execFaultFound]
    repeat' split
    · exact idle
    · exact idle
    · exact leads_done.2 (h.of_eq rfl rfl)
    · exact idle
    · exact leads_done.2 h.receiverFault
    · exact idle
  | lineRecovered levels =>
    simp only [exec, execLineRecovered]
    repeat' split
    · exact leads_done.2 h.countJoinQuiet.withLiu
    · exact idle
    · exact leads_done.2 h.countJoinQuiet.betweenFrames
    · exact leads_done.2 h.countJoinQuiet.withLiu
    · exact idle
  | silentFrameEnd levels =>
    simp only [exec, execSilentFrameEnd]
    repeat' split
    · exact leads_done.2 h.countJoinQuiet.betweenFrames
    · exact leads_done.2 h.sampleOn
    · exact idle
    · exact idle
  | duplicateSighting levels =>
    have flagged : Noticed q d (setFlag s .duplicateStation) := h.of_eq rfl rfl
    simp only [exec, execDuplicateSighting]
    split
    · exact leads_done.2 flagged.halt
    · exact idle
  | startBitOfAnotherStation =>
    simp only [exec, execStartBitOfAnotherStation]
    split
    · exact leads_done.2 h.withLiu
    · exact idle
  | periodTimerExpiry i => exact h.ifDue (h.raisePublish.modRt fun _ => ⟨rfl, .inl rfl⟩)
  | inhibitTimerExpiry i => exact h.ifDue (h.modRt fun _ => ⟨rfl, .inl rfl⟩)
  | freshnessTimerExpiry i => exact h.ifDue (h.modRt fun _ => by exact ⟨rfl, .inl rfl⟩).post.requestAutoPull
  | holdTimerExpiry i => exact h.ifDue (h.modRt fun _ => by exact ⟨rfl, .inl rfl⟩).post
  | claimTimerExpiry i => exact h.ifDue h.endClaim
  | pullReplyTimerExpiry i =>
    simp only [exec, execPullReplyTimerExpiry]
    repeat' split
    · exact idle
    · exact leads_done.2 h.keepPull
    · exact leads_done.2 h.pullUnanswered
    · exact idle
  | silenceTimerExpiry st => exact h.ifDue h.setRecord.orphanAndReport
  | ownAnnounceTimerExpiry =>
    have raised : Noticed q d (raiseAnnounce s .present) := h.of_eq rfl rfl
    exact h.ifDue raised.restartAnnounceTimer
  | _ => cases hc

end

theorem step_keeps_noticed {q d : Prop} {s : State} (h : Noticed q d s) : Leads (Noticed q d) (step s) :=
  step_leads h fun c rest _ => by
    have waiting : Noticed q d (s.withPending rest) := h.of_eq rfl rfl
    cases hc : operandsOf c with
    | some ops => exact waiting.exec_port hc
    | none => exact waiting.exec_happening hc

/-- Settles O56: a command posts, hands over or removes a notice under the law of the queue, and opens, accounts, closes
or drops a delivery record under its law; each law is kept without the other (`step_keeps_noticed`). -/
theorem noticeAndDeliveryLawsAreKept : Obligations.NoticeAndDeliveryLawsAreKept := by
  refine ⟨fun s t law ran => ?_, fun s t law ran => ?_⟩
  · have queueAlone : Noticed True False s := ⟨fun _ => law, False.elim⟩
    exact (step_keeps_noticed queueAlone t ran).queue trivial
  · have recordsAlone : Noticed False True s := ⟨False.elim, fun _ => law⟩
    exact (step_keeps_noticed recordsAlone t ran).delivery trivial

end Sys2Proof.Machine
end

section
/-! SUPPORT. What the blocks do behind the port (R179, R181): no operation of theirs touches the reply buffer or the
commands waiting. -/

namespace Sys2Proof.Machine

/-- `t` has the reply buffer and the waiting commands of `s`. -/
@[simp] abbrev PortKept (s t : State) : Prop := t.reply = s.reply ∧ t.pending = s.pending

theorem PortKept.refl (s : State) : PortKept s s := ⟨rfl, rfl⟩

/-! ### Verdicts at completion and the merge watch -/

@[simp] theorem applyAccept_port (s : State) (i : EntryIx) (source : Station) (b : FrameBody) (rs : ReasonSet) :
    PortKept s (applyAccept s i source b rs) := by
  unfold applyAccept
  split <;> simp

@[simp] theorem applyRefresh_port (s : State) (i : EntryIx) (source : Station) (b : FrameBody) :
    PortKept s (applyRefresh s i source b) := by
  unfold applyRefresh
  repeat' split
  all_goals simp

@[simp] theorem applyCede_port (s : State) (i : EntryIx) (v : VerdictRecord) : PortKept s (applyCede s i v) := by
  unfold applyCede
  repeat' split
  all_goals simp

@[simp] theorem applyAssume_port (s : State) (i : EntryIx) (v : VerdictRecord) : PortKept s (applyAssume s i v) := by
  unfold applyAssume
  split <;> simp

@[simp] theorem applyDepose_port (s : State) (i : EntryIx) (v : VerdictRecord) : PortKept s (applyDepose s i v) := by
  unfold applyDepose
  split <;> simp

@[simp] theorem applyVerdict_port (s : State) (v : VerdictRecord) : PortKept s (applyVerdict s v) := by
  unfold applyVerdict
  repeat' split
  all_goals simp

@[simp] theorem pullUnanswered_port (s : State) (i : EntryIx) : PortKept s (pullUnanswered s i) := by
  simp [pullUnanswered]

@[simp] theorem judgePullWindow_port (s : State) (i : EntryIx) (w : Window) : PortKept s (judgePullWindow s i w) := by
  unfold judgePullWindow pullTaken
  split <;> simp

@[simp] theorem endMergeWatch_port (s : State) (v : VerdictRecord) (w : Window) : PortKept s (endMergeWatch s v w) := by
  unfold endMergeWatch judgeMergeWatch
  repeat' split
  all_goals simp

@[simp] theorem abandonMergeWatch_port (s : State) : PortKept s (abandonMergeWatch s) := by
  unfold abandonMergeWatch
  repeat' split
  all_goals simp

/-! ### Capture and outcomes -/

@[simp] theorem capture_port (s : State) (q : Request) : PortKept s (capture s q) := by
  cases q <;> simp [capture, leaveSet]

@[simp] theorem publishOutcome_port (s : State) (i : EntryIx) (n : Nat) (captured : Byte) (o : TxOutcome)
    (w : Option Window) : PortKept s (publishOutcome s i n captured o w) := by
  unfold publishOutcome governedPublish unconfirmedPublish
  dsimp only
  repeat' split
  all_goals simp [startInhibit, returnPublish]

@[simp] theorem announceOutcome_port (s : State) (t : AnnounceType) (n : Nat) (o : TxOutcome) :
    PortKept s (announceOutcome s t n o).1 := by
  unfold announceOutcome returnAnnounce
  repeat' split
  all_goals exact .refl s

@[simp] theorem keepPull_port (s : State) (i : EntryIx) (f : PullRecord → PullRecord) :
    PortKept s (keepPull s i f) := by
  simp [keepPull]

@[simp] theorem pullOutcome_port (s : State) (i : EntryIx) (o : TxOutcome) (w : Option Window) :
    PortKept s (pullOutcome s i o w) := by
  unfold pullOutcome
  repeat' split
  all_goals simp

@[simp] theorem claimCompleted_port (s : State) (i : EntryIx) (k : ClaimKind) (w : Window) :
    PortKept s (claimCompleted s i k w) := by
  unfold claimCompleted keepClaim
  repeat' split
  all_goals simp

@[simp] theorem claimOutcome_port (s : State) (i : EntryIx) (o : TxOutcome) (w : Option Window) :
    PortKept s (claimOutcome s i o w) := by
  unfold claimOutcome keepClaim
  repeat' split
  all_goals simp

@[simp] theorem retryYield_port (s : State) (i : EntryIx) (n : Nat) : PortKept s (retryYield s i n) := by
  unfold retryYield keepYield
  split <;> simp

@[simp] theorem yieldOutcome_port (s : State) (i : EntryIx) (o : TxOutcome) (w : Option Window) :
    PortKept s (yieldOutcome s i o w) := by
  unfold yieldOutcome completeYield keepYield
  repeat' split
  all_goals simp

@[simp] theorem ownerOutcome_port (s : State) (fl : InFlight) (o : TxOutcome) (w : Option Window) :
    PortKept s (ownerOutcome s fl o w).1 := by
  unfold ownerOutcome
  split <;> simp

@[simp] theorem fcuOutcome_port (s : State) (o : TxOutcome) : PortKept s (fcuOutcome s o) := by
  unfold fcuOutcome
  split <;> simp

@[simp] theorem outcomeEvidence_port (s : State) (o : TxOutcome) (w : Option Window) :
    PortKept s (outcomeEvidence s o w) := by
  unfold outcomeEvidence
  split <;> simp

@[simp] theorem reportStanding_port (s : State) : PortKept s (reportStanding s) := by
  unfold reportStanding
  split <;> simp

@[simp] theorem handleOutcome_port (s : State) (fl : InFlight) (o : TxOutcome) (w : Option Window) :
    PortKept s (handleOutcome s fl o w) := by
  unfold handleOutcome afterOutcome
  dsimp only
  split <;> simp

/-! ### Completions, faults and the parts of a command -/

@[simp] theorem enterOnline_port (s : State) : PortKept s (enterOnline s) := by
  simp [enterOnline]

@[simp] theorem completionEvidence_port (s : State) (f : Frame) (w : Window) :
    PortKept s (completionEvidence s f w) := by
  unfold completionEvidence
  split <;> simp

@[simp] theorem afterAnswer_port (s : State) (driven : Bool) : PortKept s (afterAnswer s driven) := by
  unfold afterAnswer
  split <;> simp

@[simp] theorem presentCompletion_port (s : State) (v : VerdictRecord) (w : Window) :
    PortKept s (presentCompletion s v w) := by
  unfold presentCompletion afterCompletion
  dsimp only
  split <;> simp

@[simp] theorem countGap_port (s : State) (n : Nat) : PortKept s (countGap s n) := by
  unfold countGap
  split <;> exact ⟨rfl, rfl⟩

@[simp] theorem liuAfterOutcome_port (s : State) (levels : List Level) (o : TxOutcome) (w : Option Window) :
    PortKept s (liuAfterOutcome s levels o w) := by
  unfold liuAfterOutcome
  split <;> simp

@[simp] theorem receiverFault_port (s : State) (levels : List Level) (k : FaultKind) :
    PortKept s (receiverFault s levels k) := by
  simp [receiverFault, liuOnFault]

@[simp] theorem sampleOn_port (s : State) (levels : List Level) (phase : LiuPhase) :
    PortKept s (sampleOn s levels phase) := by
  simp [sampleOn]

/-! ### What happens behind the port -/

/-- A timer that runs out, or does not. -/
theorem ifDue_port {s u : State} {now : Time} {x : Timer} (kept : PortKept s u) :
    Leads (PortKept s) (if timerDue now x then done u else done s) := by
  split
  · exact leads_done.2 kept
  · exact leads_done.2 (.refl s)

/-- No happening touches the port, the pin apart (R181). -/
theorem exec_happening_port {c : Instr} {s : State} (hc : operandsOf c = none) (noReset : c ≠ .fullReset) :
    Leads (PortKept s) (exec c s) := by
  cases c with
  | fullReset => exact absurd rfl noReset
  | emptyTransaction => exact leads_done.2 (.refl s)
  | stationTimeTick => exact leads_done.2 (.refl s)
  | lineFree n =>
    simp only [exec, execLineFree]
    split <;> simp
  | startBitCapture =>
    simp only [exec, execStartBitCapture]
    repeat' split
    all_goals simp
  | frameVerdictPoint levels =>
    simp only [exec, execFrameVerdictPoint]
    repeat' split
    all_goals simp
  | receivedFrameCompletion levels =>
    simp only [exec, execReceivedFrameCompletion]
    repeat' split
    all_goals simp
  | joinQuiet n =>
    simp only [exec, execJoinQuiet]
    repeat' split
    all_goals simp
  | ownFrameOutcome levels =>
    simp only [exec, execOwnFrameOutcome]
    repeat' split
    all_goals simp
  | faultFound levels =>
    simp only [exec, execFaultFound]
    repeat' split
    all_goals simp [senderFault, liuOnFault]
  | lineRecovered levels =>
    simp only [exec, execLineRecovered]
    repeat' split
    all_goals simp [passMark, enterRecovering]
  | silentFrameEnd levels =>
    simp only [exec, execSilentFrameEnd]
    repeat' split
    all_goals simp
  | duplicateSighting levels =>
    simp only [exec, execDuplicateSighting]
    split <;> simp
  | startBitOfAnotherStation =>
    simp only [exec, execStartBitOfAnotherStation]
    split <;> simp
  | periodTimerExpiry i => exact ifDue_port (by simp)
  | inhibitTimerExpiry i => exact ifDue_port (by simp)
  | freshnessTimerExpiry i => exact ifDue_port (by simp)
  | holdTimerExpiry i => exact ifDue_port (by simp)
  | claimTimerExpiry i => exact ifDue_port (by simp)
  | pullReplyTimerExpiry i =>
    simp only [exec, execPullReplyTimerExpiry]
    repeat' split
    all_goals simp
  | silenceTimerExpiry st => exact ifDue_port (by simp)
  | ownAnnounceTimerExpiry => exact ifDue_port (by simp)
  | _ => cases hc

end Sys2Proof.Machine
end

section
/-! SUPPORT. Transactions (R178 to R182): every command answers a next state, and a transaction that carries a code
shifts out the reply that stood in the buffer and, NOP apart, leaves a reply of its own there. -/

namespace Sys2Proof.Machine

/-! ### Every command answers a next state -/

/-- No command stops the part. -/
theorem exec_next (c : Instr) (s : State) : ∃ t, exec c s = .next t := by
  cases c
  case nextNotice | setStation | setItem | start | stop | rejoin | lineFree | startBitCapture | frameVerdictPoint
      | receivedFrameCompletion | joinQuiet | ownFrameOutcome | faultFound | lineRecovered | silentFrameEnd
      | duplicateSighting | startBitOfAnotherStation | periodTimerExpiry | inhibitTimerExpiry | freshnessTimerExpiry
      | holdTimerExpiry | claimTimerExpiry | pullReplyTimerExpiry | silenceTimerExpiry | ownAnnounceTimerExpiry =>
    simp only [exec, execNextNotice, execSetStation, execSetItem, execStart, execStop, execRejoin, execLineFree,
      execStartBitCapture, execFrameVerdictPoint, execReceivedFrameCompletion, execJoinQuiet, execOwnFrameOutcome,
      execFaultFound, execLineRecovered, execSilentFrameEnd, execDuplicateSighting, execStartBitOfAnotherStation,
      execPeriodTimerExpiry, execInhibitTimerExpiry, execFreshnessTimerExpiry, execHoldTimerExpiry,
      execClaimTimerExpiry, execPullReplyTimerExpiry, execSilenceTimerExpiry, execOwnAnnounceTimerExpiry]
    repeat' split
    all_goals exact ⟨_, rfl⟩
  all_goals exact ⟨_, rfl⟩

/-! ### The reply of a transaction (R181, R183) -/

/-- `t` is left by a transaction taken in `s`: its reply is a status byte, with results after OK and BAD-CONFIG alone,
and the commands waiting are those of `s`. -/
def Answered (s : State) (ops : List Byte) (t : State) : Prop :=
  ∃ (u : State) (st : Status) (results : List Byte), t = withReply s ops u (st.code :: results) ∧
    u.pending = s.pending ∧ (st ≠ .ok → st ≠ .badConfig → results = [])

section
variable {s u : State} {ops results : List Byte}

theorem Answered.refused (st : Status) : Answered s ops (refuse s ops st) := ⟨s, st, [], rfl, rfl, fun _ _ => rfl⟩

theorem Answered.ok (kept : u.pending = s.pending) : Answered s ops (withReply s ops u (Status.ok.code :: results)) :=
  ⟨u, .ok, results, rfl, kept, fun other => absurd rfl other⟩

theorem Answered.startFails (e : ConfigFailure) : Answered s ops (withReply s ops s e.reply) := by
  cases e <;> exact ⟨s, .badConfig, _, rfl, rfl, fun _ other => absurd rfl other⟩

theorem onEntry_answered {run : EntryIx → State} (ran : ∀ i, Answered s ops (run i)) :
    Answered s ops (onEntry s ops run) :=
  onEntry_of .refused fun i _ => ran i

end

theorem takeClaim_pending (s : State) (i : EntryIx) : (takeClaim s i).pending = s.pending := by
  simp [takeClaim]

theorem holdLimit_pending (s : State) : (holdLimit s).2.pending = s.pending := by
  unfold holdLimit
  split <;> rfl

theorem storeItem_pending (s : State) (i : EntryIx) (c : ItemConfig) : (storeItem s i c).pending = s.pending := by
  simp [storeItem]

theorem startStation_pending (s : State) : (startStation s).pending = s.pending := by
  simp [startStation]

theorem enterLeaving_pending (s : State) : (enterLeaving s).pending = s.pending := by
  simp [enterLeaving]

theorem clearRuntime_pending (s : State) : (clearRuntime s).pending = s.pending := by
  simp [clearRuntime]

/-- Every command of the port but NOP answers with a reply of its own. -/
theorem exec_port_answered {c : Instr} {ops : List Byte} {s : State} (hc : operandsOf c = some ops)
    (noNop : c ≠ .nop ops) : Leads (Answered s ops) (exec c s) := by
  cases c <;> cases hc
  case nop => exact absurd rfl noNop
  case status => exact leads_done.2 (.ok rfl)
  case nextNotice =>
    simp only [exec, execNextNotice]
    split
    · exact leads_done.2 (.refused _)
    · exact leads_done.2 (.ok (refillNotices_pending _))
  case read => exact leads_done.2 (onEntry_answered fun _ => .ok rfl)
  case readDelivery => exact leads_done.2 (onEntry_answered fun _ => .ok rfl)
  case readRoster => exact leads_done.2 (.ok rfl)
  case write =>
    refine leads_done.2 (onEntry_answered fun i => ?_)
    repeat' split
    · exact .refused _
    · exact .ok (State.modRt_pending _ _ _)
    · exact .refused _
  case hold =>
    refine leads_done.2 (onEntry_answered fun i => ?_)
    split
    · exact .ok ((State.modRt_pending _ _ _).trans (holdLimit_pending s))
    · exact .refused _
  case release =>
    refine leads_done.2 (onEntry_answered fun i => ?_)
    split
    · exact .ok (State.modRt_pending _ _ _)
    · exact .refused _
  case pull =>
    refine leads_done.2 (onEntry_answered fun i => ?_)
    repeat' split
    · exact .ok rfl
    · exact .ok (addPull_pending _ _)
    · exact .refused _
    · exact .refused _
  case claim =>
    refine leads_done.2 (onEntry_answered fun i => ?_)
    split
    · exact .ok (takeClaim_pending _ _)
    · exact .refused _
  case setStation =>
    refine execSetStation_cases.imp ?_
    rintro t (⟨st, rfl⟩ | ⟨-, p, rfl⟩)
    · exact .refused st
    · exact .ok rfl
  case setItem =>
    refine execSetItem_cases.imp ?_
    rintro t (⟨st, rfl⟩ | ⟨-, i, c, -, -, rfl⟩)
    · exact .refused st
    · exact .ok (storeItem_pending s i c)
  case start =>
    simp only [exec, execStart]
    repeat' split
    · exact leads_done.2 (.refused _)
    · exact leads_done.2 (.startFails _)
    · exact leads_done.2 (.ok (startStation_pending s))
  case stop =>
    simp only [exec, execStop]
    repeat' split
    · exact leads_done.2 (.refused _)
    · exact leads_done.2 (.ok (halt_pending s))
    · exact leads_done.2 (.ok (enterLeaving_pending s))
  case rejoin =>
    simp only [exec, execRejoin]
    split
    · exact leads_done.2 (.ok (leaveMuted_pending s 119))
    · exact leads_done.2 (.refused _)
  case restart => exact leads_done.2 (.ok (clearRuntime_pending s))
  case unknownCommandCode => exact leads_done.2 (.refused _)

/-- No command changes the queue it came from. -/
theorem exec_keeps_pending (c : Instr) (s : State) : Leads (fun t => t.pending = s.pending) (exec c s) := by
  cases hc : operandsOf c with
  | some ops =>
    by_cases nop : c = .nop ops
    · subst nop
      exact leads_done.2 rfl
    · refine (exec_port_answered hc nop).imp ?_
      rintro t ⟨u, st, results, rfl, kept, -⟩
      exact kept
  | none =>
    by_cases reset : c = .fullReset
    · subst reset
      exact leads_done.2 rfl
    · exact (exec_happening_port hc reset).imp fun _ kept => kept.2

/-- Settles O1: `step` by its two arms, and the next state of every command with its queue (`exec_next`,
`exec_keeps_pending`). -/
theorem stepRunsTheFrontCommand : Obligations.StepRunsTheFrontCommand := by
  refine ⟨fun c rest s queue => ?_, fun s queue => ?_, fun c s => ?_⟩
  · simp only [step, queue]
  · simp only [step, queue]
  · obtain ⟨t, ran⟩ := exec_next c s
    exact ⟨t, ran, exec_keeps_pending c s t ran⟩

/-! ### The bytes shifted out (R181) -/

/-- The byte shifted out for the byte received at place `k`, the buffer holding `reply`. -/
def outByte (reply : Option (List Byte)) (k : Nat) : Byte :=
  match reply with
  | some r => r.getD k 0x00
  | none => 0xFF

theorem shiftOut_eq_map (reply : Option (List Byte)) (n : Nat) :
    shiftOut reply n = (List.range n).map (outByte reply) := by
  cases reply with
  | none =>
    show List.replicate n 0xFF = (List.range n).map fun _ => 0xFF
    rw [List.map_const', List.length_range]
  | some r => rfl

@[simp] theorem length_shiftOut (reply : Option (List Byte)) (n : Nat) : (shiftOut reply n).length = n := by
  simp [shiftOut_eq_map]

theorem getElem?_shiftOut (reply : Option (List Byte)) {n k : Nat} (h : k < n) :
    (shiftOut reply n)[k]? = some (outByte reply k) := by
  simp [shiftOut_eq_map, h]

/-- Whatever the command, a transaction shifts out the reply that stood in the buffer. -/
theorem exec_port_shiftedOut {c : Instr} {ops : List Byte} {s : State} (hc : operandsOf c = some ops) :
    Leads (fun t => t.shiftedOut = shiftOut s.reply (ops.length + 1)) (exec c s) := by
  by_cases nop : c = .nop ops
  · subst nop
    exact leads_done.2 rfl
  · refine (exec_port_answered hc nop).imp ?_
    rintro t ⟨u, st, results, rfl, -, -⟩
    rfl

/-- Settles O2: the bytes of every transaction (`exec_port_shiftedOut`), the reply of every command but NOP
(`exec_port_answered`), and the buffer behind the port (`exec_happening_port`). -/
theorem replyBufferHoldsTheLastReply : Obligations.ReplyBufferHoldsTheLastReply := by
  refine ⟨fun ops s => ?_, fun ops s t ran => ?_, fun c ops s t hc ran => ⟨?_, fun k hk => ?_, ?_⟩,
    fun ops s t ran => ?_, fun c s t hc noReset ran => ?_, fun s t ran => ?_⟩
  · rw [exec, execNop, shiftOut_eq_map]
    rfl
  · cases ran
    rfl
  · rw [exec_port_shiftedOut hc t ran, length_shiftOut]
  · rw [exec_port_shiftedOut hc t ran, getElem?_shiftOut _ (Nat.lt_succ_of_le hk)]
    rfl
  · split
    · next nop =>
      subst nop
      cases ran
      rfl
    · next other =>
      obtain ⟨u, st, results, rfl, -, alone⟩ := exec_port_answered hc other t ran
      exact ⟨st, results, rfl, alone⟩
  · have answered : Leads (fun t => t.reply = some [0x00]) (exec (.restart ops) s) := leads_done.2 rfl
    exact answered t ran
  · exact (exec_happening_port hc noReset t ran).1
  · cases ran
    rfl

end Sys2Proof.Machine
end

section
/-! SUPPORT. The transport (R178, R180): bytes from bits, the checks on a transaction, the operand bytes a command
reads, and what READ and READ-DELIVERY report (R94, R185). -/

namespace Sys2Proof.Machine

/-! ### Bytes from bits (R178) -/

theorem byteBits_eq (b : Byte) : byteBits b = natBits 8 b.toNat := rfl

/-- Eight bits clocked in are one byte. -/
theorem wholeBytes_byteBits (b : Byte) (bits : List Bool) : wholeBytes (byteBits b ++ bits) = b :: wholeBytes bits := by
  have assembled : BitVec.ofNat 8 (bitsNat (byteBits b)) = b := by
    rw [byteBits_eq, bitsNat_natBits, Nat.mod_eq_of_lt b.isLt, BitVec.ofNat_toNat, BitVec.setWidth_eq]
  exact congrArg (· :: wholeBytes bits) assembled

theorem wholeBytes_short {bits : List Bool} (short : bits.length < 8) : wholeBytes bits = [] := by
  unfold wholeBytes
  split
  · simp only [List.length_cons] at short
    omega
  · rfl

theorem wholeBytes_clocked (bytes : List Byte) {leftover : List Bool} (short : leftover.length < 8) :
    wholeBytes (bytes.flatMap byteBits ++ leftover) = bytes := by
  induction bytes with
  | nil => exact wholeBytes_short short
  | cons b bytes ih => rw [List.flatMap_cons, List.append_assoc, wholeBytes_byteBits, ih]

/-- A code outside the command code table (R180). -/
theorem transactionCommand_unknown {code : Byte} (unlisted : code ∉ commandCodes) (ops : List Byte) :
    transactionCommand (code :: ops) = .unknownCommandCode code ops := by
  simp only [commandCodes, List.mem_cons, List.not_mem_nil, or_false, not_or] at unlisted
  simp only [transactionCommand, unlisted, if_false]

/-! ### The checks on the entry operand and on the length (R180) -/

/-- The commands on one entry are those that `onEntry` checks. -/
theorem exec_onEntry {c : List Byte → Instr} (hc : c ∈ .write :: entryCommands) (s : State) :
    ∃ run : List Byte → EntryIx → State, ∀ ops, exec (c ops) s = .next (onEntry s ops (run ops)) := by
  simp only [entryCommands, List.mem_cons, List.not_mem_nil, or_false] at hc
  rcases hc with rfl | rfl | rfl | rfl | rfl | rfl | rfl <;> exact ⟨_, fun _ => rfl⟩

theorem exec_setItem_above {s : State} {b : Byte} {rest : List Byte} (above : 128 ≤ b.toNat) :
    exec (.setItem (b :: rest)) s = .next (refuse s (b :: rest) .badItem) :=
  dif_neg (Nat.not_lt.2 above)

theorem exec_setItem_short {s : State} {i : EntryIx} {rest : List Byte}
    (short : (entryByte i :: rest).length < itemBytesNeeded (entryByte i :: rest)) :
    exec (.setItem (entryByte i :: rest)) s = .next (refuse s (entryByte i :: rest) .badLength) := by
  have below : (entryByte i).toNat < 128 := by rw [entryByte_toNat]; exact i.isLt
  simp only [exec, execSetItem]
  rw [dif_pos below, if_pos short]
  rfl

/-- Settles O3: bits by `wholeBytes_clocked`, codes by `transactionCommand_unknown`, and the checks of `onEntry`, WRITE,
SET-STATION and SET-ITEM. -/
theorem transportChecksRefuse : Obligations.TransportChecksRefuse := by
  refine ⟨fun bytes leftover short => ?_, fun code ops unlisted => transactionCommand_unknown unlisted ops,
    fun _ _ _ => rfl, fun _ => ⟨rfl, rfl⟩, fun c hc s => ?_, fun c hc b rest s above => ?_,
    fun c hc i rest s unused => ?_, fun i rest s used short => exec_write_short used short,
    fun ops s short => if_pos short, fun i rest s short => exec_setItem_short ?_⟩
  · rw [clockedCommand, wholeBytes_clocked bytes short]
  · by_cases item : c = .setItem
    · subst item
      rfl
    · obtain ⟨run, ran⟩ := exec_onEntry (by simpa [item] using hc) s
      exact ran []
  · by_cases item : c = .setItem
    · subst item
      exact exec_setItem_above above
    · obtain ⟨run, ran⟩ := exec_onEntry (by simpa [item] using hc) s
      rw [ran, onEntry_above s b rest _ above]
      rfl
  · obtain ⟨run, ran⟩ := exec_onEntry hc s
    rw [ran, onEntry_unused s i rest _ unused]
    rfl
  · rw [itemBytesNeeded, List.length_cons]
    omega

/-! ### Operand bytes beyond those a command needs (R180) -/

/-- Past the operand bytes `needed`, what further ones do to the command `c` in `s` is to be shifted out. -/
def IgnoresPast (s : State) (c : List Byte → Instr) (needed : List Byte) : Prop :=
  ∃ u : State, ∀ extra, exec (c (needed ++ extra)) s =
    .next { u with shiftedOut := shiftOut s.reply ((needed ++ extra).length + 1) }

section
variable {s : State} {c : List Byte → Instr} {needed : List Byte}

theorem IgnoresPast.of_withReply {u : State} {reply : List Byte}
    (answers : ∀ extra, exec (c (needed ++ extra)) s = .next (withReply s (needed ++ extra) u reply)) :
    IgnoresPast s c needed :=
  ⟨{ u with reply := some reply }, answers⟩

theorem IgnoresPast.of_refuse {st : Status}
    (refuses : ∀ extra, exec (c (needed ++ extra)) s = .next (refuse s (needed ++ extra) st)) :
    IgnoresPast s c needed :=
  .of_withReply refuses

theorem IgnoresPast.exec_append (ignores : IgnoresPast s c needed) {t : State} (ran : exec (c needed) s = .next t)
    (extra : List Byte) {n : Nat} (hn : n = needed.length + extra.length + 1) :
    exec (c (needed ++ extra)) s = .next { t with shiftedOut := shiftOut s.reply n } := by
  obtain ⟨u, answers⟩ := ignores
  have alone := answers []
  rw [List.append_nil, ran] at alone
  cases alone
  rw [answers, List.length_append, ← hn]

end

/-! ### Commands without operands and commands on one entry -/

theorem nextNotice_ignores (s : State) : IgnoresPast s .nextNotice [] := by
  cases queue : s.notices with
  | nil => exact .of_withReply fun extra => exec_nextNotice_empty extra queue
  | cons n rest => exact .of_withReply fun extra => exec_nextNotice_head extra queue rfl

theorem start_ignores (s : State) : IgnoresPast s .start [] := by
  by_cases configuring : s.lifecycle = .configuring
  · cases check : configFailure s with
    | some e => exact .of_withReply fun extra => exec_start_fails extra configuring check
    | none => exact .of_withReply fun extra => exec_start_passes extra configuring check
  · exact .of_refuse fun extra => if_pos configuring

theorem stop_ignores (s : State) : IgnoresPast s .stop [] := by
  by_cases online : s.lifecycle = .online
  · by_cases muted : s.fcu.standing = .muted
    · exact .of_withReply fun extra => (if_neg (not_not.2 online)).trans (if_pos muted)
    · exact .of_withReply fun extra => (if_neg (not_not.2 online)).trans (if_neg muted)
  · exact .of_refuse fun extra => if_pos online

theorem rejoin_ignores (s : State) : IgnoresPast s .rejoin [] := by
  by_cases muted : s.lifecycle = .online ∧ s.fcu.standing = .muted
  · exact .of_withReply fun extra => if_pos muted
  · exact .of_refuse fun extra => if_neg muted

theorem unoperanded_ignores {c : List Byte → Instr}
    (hc : c ∈ [Instr.nop, .status, .nextNotice, .readRoster, .start, .stop, .rejoin, .restart]) (s : State) :
    IgnoresPast s c [] := by
  simp only [List.mem_cons, List.not_mem_nil, or_false] at hc
  rcases hc with rfl | rfl | rfl | rfl | rfl | rfl | rfl | rfl
  · exact ⟨s, fun _ => rfl⟩
  · exact .of_withReply fun _ => rfl
  · exact nextNotice_ignores s
  · exact .of_withReply fun _ => rfl
  · exact start_ignores s
  · exact stop_ignores s
  · exact rejoin_ignores s
  · exact .of_withReply fun _ => rfl

/-- A command on one entry reads the first operand byte alone. -/
theorem onEntry_ignores {s : State} {c : List Byte → Instr} {run : List Byte → EntryIx → State}
    (runs : ∀ ops, exec (c ops) s = .next (onEntry s ops (run ops)))
    (replies : ∀ i, ∃ u reply, ∀ ops, run ops i = withReply s ops u reply) (b : Byte) : IgnoresPast s c [b] := by
  have checked : ∀ extra, entryOperand s ([b] ++ extra) = entryOperand s [b] := fun _ => rfl
  cases named : entryOperand s [b] with
  | error st => exact .of_refuse fun extra => by rw [runs, onEntry, checked, named]
  | ok i =>
    obtain ⟨u, reply, ran⟩ := replies i
    exact .of_withReply fun extra => by rw [runs, onEntry, checked, named, ← ran]

theorem entryCommand_ignores {c : List Byte → Instr} (hc : c ∈ entryCommands) (s : State) (b : Byte) :
    IgnoresPast s c [b] := by
  simp only [entryCommands, List.mem_cons, List.not_mem_nil, or_false] at hc
  rcases hc with rfl | rfl | rfl | rfl | rfl | rfl
  · exact onEntry_ignores (fun _ => rfl) (fun i => ⟨_, _, fun _ => rfl⟩) b
  · exact onEntry_ignores (fun _ => rfl) (fun i => ⟨_, _, fun _ => rfl⟩) b
  all_goals
    refine onEntry_ignores (fun _ => rfl) (fun i => ?_) b
    simp only [refuse]
    split_ifs
    all_goals exact ⟨_, _, fun _ => rfl⟩

/-! ### Commands with operands of their own -/

theorem write_ignores (s : State) (i : EntryIx) {value : List Byte} (whole : value.length = (s.cfg i).length) :
    IgnoresPast s .write (entryByte i :: value) := by
  obtain ⟨u, reply, same⟩ := exec_write_reads_value s i value
  exact .of_withReply fun extra => same (value ++ extra) (by simp [whole]) (by rw [← whole, List.take_left])

/-- A byte read from operands that hold it is read whatever follows. -/
theorem byteAt_append {ops : List Byte} {p : Nat} (held : p - 1 < ops.length) (extra : List Byte) :
    byteAt (ops ++ extra) p = byteAt ops p := by
  rw [byteAt, byteAt, List.getD_append _ _ _ _ held]

/-- The 11 bytes needed are all that is read; `congr` closes over the decisions on them. -/
theorem stationOperands_append {ops : List Byte} (enough : 11 ≤ ops.length) (extra : List Byte) :
    stationOperands (ops ++ extra) = stationOperands ops := by
  have same : ∀ p ≤ 11, byteAt (ops ++ extra) p = byteAt ops p := fun p hp => byteAt_append (by omega) extra
  unfold stationOperands
  simp only [word16At, same, Nat.reduceAdd, Nat.reduceLeDiff]
  congr

theorem setStation_ignores (s : State) {ops : List Byte} (enough : 11 ≤ ops.length) :
    IgnoresPast s .setStation ops := by
  have long : ∀ extra, 11 ≤ (ops ++ extra).length := fun extra => enough.trans (by simp)
  by_cases configuring : s.lifecycle = .configuring
  · cases named : stationOperands ops with
    | none =>
      exact .of_withReply fun extra => by
        rw [exec_setStation_long (long extra), stationOperands_append enough, if_neg (not_not.2 configuring), named]
    | some p =>
      exact .of_withReply fun extra => by
        rw [exec_setStation_long (long extra), stationOperands_append enough, if_neg (not_not.2 configuring), named]
  · exact .of_withReply fun extra => by rw [exec_setStation_long (long extra), if_pos configuring]

theorem itemBytesNeeded_append {ops : List Byte} (enough : itemBytesNeeded ops ≤ ops.length) (extra : List Byte) :
    itemBytesNeeded (ops ++ extra) = itemBytesNeeded ops := by
  have held : 6 - 1 < ops.length := by
    rw [itemBytesNeeded] at enough
    omega
  rw [itemBytesNeeded, itemBytesNeeded, byteAt_append held]

theorem bytesFrom_append {ops : List Byte} {n : Nat} (enough : 18 + n ≤ ops.length) (extra : List Byte) :
    bytesFrom (ops ++ extra) 19 n = bytesFrom ops 19 n :=
  List.map_congr_left fun k hk => byteAt_append (by have := List.mem_range.1 hk; omega) extra

/-- Of the initial value no more is read than the bytes needed hold: a length above 12 names no part. -/
theorem itemOperands_append {ops : List Byte} (enough : itemBytesNeeded ops ≤ ops.length) (extra : List Byte) :
    itemOperands (ops ++ extra) = itemOperands ops := by
  rw [itemBytesNeeded] at enough
  have same : ∀ p ≤ 18, byteAt (ops ++ extra) p = byteAt ops p := fun p hp => byteAt_append (by omega) extra
  unfold itemOperands
  simp only [word16At, word32At, same, Nat.reduceAdd, Nat.reduceLeDiff]
  by_cases length : (byteAt ops 6).toNat ≤ 12
  · rw [if_pos length] at enough
    simp only [bytesFrom_append enough]
    congr
  · simp only [length, false_and, and_false, if_false]

theorem setItem_ignores (s : State) {ops : List Byte} (enough : itemBytesNeeded ops ≤ ops.length) :
    IgnoresPast s .setItem ops := by
  cases ops with
  | nil => exact absurd enough (by simp [itemBytesNeeded])
  | cons b rest =>
    by_cases above : 128 ≤ b.toNat
    · exact .of_refuse fun extra => exec_setItem_above above
    obtain ⟨i, rfl⟩ : ∃ i, b = entryByte i := ⟨⟨b.toNat, Nat.not_le.1 above⟩, by simp [entryByte]⟩
    have long : ∀ extra, itemBytesNeeded (entryByte i :: (rest ++ extra)) ≤ (entryByte i :: (rest ++ extra)).length :=
      fun extra => (itemBytesNeeded_append enough extra).le.trans (enough.trans (by simp))
    by_cases configuring : s.lifecycle = .configuring
    · cases named : itemOperands (entryByte i :: rest) with
      | none =>
        exact .of_withReply fun extra => by
          rw [exec_setItem_long (long extra) (List.cons_append ..), itemOperands_append enough,
            if_neg (not_not.2 configuring), named]
      | some item =>
        by_cases taken : keyTaken s i item = true
        · exact .of_withReply fun extra => by
            rw [exec_setItem_long (long extra) (List.cons_append ..), itemOperands_append enough,
              if_neg (not_not.2 configuring), named]
            exact if_pos taken
        · exact .of_withReply fun extra => by
            rw [exec_setItem_long (long extra) (List.cons_append ..), itemOperands_append enough,
              if_neg (not_not.2 configuring), named]
            exact if_neg taken
    · exact .of_withReply fun extra => by
        rw [exec_setItem_long (long extra) (List.cons_append ..), if_pos configuring]

/-- Settles O4: each command reads no further than the bytes it needs (`IgnoresPast`). -/
theorem extraOperandBytesAreIgnored : Obligations.ExtraOperandBytesAreIgnored := by
  refine ⟨fun c hc extra s t ran => ?_, fun c hc b extra s t ran => ?_, fun i value extra s t whole ran => ?_,
    fun ops extra s t whole ran => ?_, fun ops extra s t whole ran => ?_⟩
  · exact (unoperanded_ignores hc s).exec_append ran extra (by simp)
  · exact (entryCommand_ignores hc s b).exec_append ran extra (by simp; omega)
  · exact (write_ignores s i whole).exec_append ran extra (by simp; omega)
  · exact (setStation_ignores s whole.ge).exec_append ran extra (by omega)
  · exact (setItem_ignores s whole.ge).exec_append ran extra rfl

/-! ### READ and READ-DELIVERY (R185, R94) -/

/-- The byte of held and source: the one in bit 0, the other in bit 1 (log entry 23). -/
theorem heldAndSource_byte (held recorded : Bool) :
    ((if held then 0x01 else 0) ||| (if recorded then 0x02 else 0) : Byte) =
      BitVec.ofNat 8 (held.toNat + 2 * recorded.toNat) := by
  cases held <;> cases recorded <;> rfl

/-- The age of a value, in plain arithmetic (R156). -/
theorem ageOf_some (now : Time) (o : Origin) :
    ageOf now (some o) = min ((now.toNat + 4294967296 - o.arrival.toNat) % 4294967296) 65535 := by
  have h1 := now.isLt
  have h2 := o.arrival.isLt
  have advanced : 2 ^ 32 - o.arrival.toNat + now.toNat = now.toNat + 4294967296 - o.arrival.toNat := by omega
  rw [ageOf, BitVec.toNat_sub, advanced]

/-- Settles O5: a used entry is read by `readReply` and `deliveryReply`, byte for byte. -/
theorem readingAnEntryReportsIt : Obligations.ReadingAnEntryReportsIt := by
  refine fun i rest s used => ⟨?_, ?_⟩
  · rw [exec, execRead, onEntry_used s i rest _ used, readReply, heldAndSource_byte]
    cases (s.rt i).source with
    | none => rfl
    | some o => rw [ageOf_some]; rfl
  · rw [exec, execReadDelivery, onEntry_used s i rest _ used]
    cases (s.rt i).delivery with
    | none => rfl
    | some d => rfl

end Sys2Proof.Machine
end
